-- ==== Sys2Proof/Word.lean ====
section
/-! DEFINITION. The units of transfer and storage of the manual's "Conventions": bytes, 32-bit words, 8-byte beats,
and the ranges of the numbers that name bus masters and transactions. -/

namespace Sys2Proof

/-- Eight bits. -/
abbrev Byte := BitVec 8

/-- A 32-bit word: an address, a sequence, an epoch number, a generation, an M-link word. -/
abbrev Word := BitVec 32

/-- A beat of 8 bytes. Byte k of the beat, byte 0 at the lowest address, is bits 8k to 8k+7. -/
abbrev Beat := BitVec 64

/-- The number of a bus master, 0..7. -/
abbrev Initiator := Fin 8

/-- An upstream tag, 0..31. -/
abbrev UpTag := Fin 32

/-- A downstream tag, 0..47. -/
abbrev DownTag := Fin 48

end Sys2Proof
end

