-- ==== Sys2Proof/Syntax.lean ====
section
/-! DEFINITION. The commands of the block: one constructor of `Instr` per row of spec/opcode_table.json, in the
table's order, with the operands each row's rule gives it. -/

namespace Sys2Proof

/-- An upstream WRITE request record (R136). `beats` is the field as sent; it need not agree with the lists. -/
structure WriteRequest where
  tag : UpTag
  initiator : Initiator
  address : Word
  beats : Nat
  data : List Beat
  masks : List Byte
  deriving DecidableEq, Repr

/-- An upstream READ request record (R136). A READ that carries data beats or byte masks is malformed (R139). -/
structure ReadRequest where
  tag : UpTag
  initiator : Initiator
  address : Word
  beats : Nat
  data : List Beat
  masks : List Byte
  deriving DecidableEq, Repr

/-- What an M-link request frame holds beside its command code: the sequence the partner chose and the argument
words (R181). The command is taken at the release of MCS# (R180). -/
structure LinkRequest where
  sequence : Byte
  args : List Word
  deriving DecidableEq, Repr

/-- The three strap groups as they stand when RST# is released (R102). -/
structure Straps where
  jbase : Fin 4
  jsize : Fin 4
  autoRecover : Bool
  deriving DecidableEq, Repr

/-- A final answer of memory to an issue. -/
inductive FinalAnswer where
  | ok
  | fail
  deriving DecidableEq, Repr

/-- Any answer of memory to an issue (R147). -/
inductive MemoryAnswer where
  | ok
  | busy
  | fail
  deriving DecidableEq, Repr

/-- The commands: one constructor per row of the table. An answer row carries memory's answer record (R147): the
downstream tag, the result and, where the operation reads, the data beats. -/
inductive Instr where
  | writeRequest (r : WriteRequest)
  | readRequest (r : ReadRequest)
  | nop (r : LinkRequest)
  | readStatus (r : LinkRequest)
  | beginEpoch (r : LinkRequest)
  | commitEpoch (r : LinkRequest)
  | abortEpoch (r : LinkRequest)
  | formatJournal (r : LinkRequest)
  | recoverJournal (r : LinkRequest)
  | setParam (r : LinkRequest)
  | getParam (r : LinkRequest)
  | writeRegion (r : LinkRequest)
  | readRegion (r : LinkRequest)
  | readAlerts (r : LinkRequest)
  | clearAlerts (r : LinkRequest)
  | popIncident (r : LinkRequest)
  | popCompletion (r : LinkRequest)
  | resetPartSoft (r : LinkRequest)
  | resetPartForce (r : LinkRequest)
  /-- The bits received on MDI, in the order received (R182). -/
  | frameError (bits : List Bool)
  | unknownCommand (code : Byte) (r : LinkRequest)
  | softResetTakesPlace
  | pfwAssert
  | pfwRelease
  | enterSafe
  | rstAssert
  | rstRelease (straps : Straps)
  | spaceWaitExpiry
  | spaceGranted
  | autoCommitExpiry
  | pendingAutoCommitTaken
  | dsTimeout (tag : DownTag)
  | busyAnswer (tag : DownTag)
  | reissue (tag : DownTag)
  | lateAnswer (tag : DownTag) (answer : MemoryAnswer)
  | tagGrant
  | dataWriteIssue
  | dataWriteAnswer (tag : DownTag) (answer : FinalAnswer)
  | dataReadIssue
  | dataReadAnswer (tag : DownTag) (answer : FinalAnswer) (data : List Beat)
  | captureStart
  | undoReadAnswer (tag : DownTag) (answer : FinalAnswer) (data : List Beat)
  | undoSlotWriteAnswer (tag : DownTag) (answer : FinalAnswer)
  | openSlotWriteAnswer (tag : DownTag) (answer : FinalAnswer)
  | closerCapturingDone
  | closeWriteIssue
  | closeSlotWriteAnswer (tag : DownTag) (answer : FinalAnswer)
  | anchorClaimIssue
  | anchorWriteAnswer (tag : DownTag) (answer : FinalAnswer)
  | rollbackSettled
  | rollbackSlotReadAnswer (tag : DownTag) (answer : FinalAnswer) (data : List Beat)
  | rollbackRestoreIssue
  | rollbackRestoreAnswer (tag : DownTag) (answer : FinalAnswer)
  | rollbackAbandonAnswer (tag : DownTag) (answer : FinalAnswer)
  | anchorReadAnswer (tag : DownTag) (answer : FinalAnswer) (data : List Beat)
  | formatAnchorWriteAnswer (tag : DownTag) (answer : FinalAnswer)
  | scanSlotReadAnswer (tag : DownTag) (answer : FinalAnswer) (data : List Beat)
  | mountReplayReadAnswer (tag : DownTag) (answer : FinalAnswer) (data : List Beat)
  | mountRestoreIssue
  | mountRestoreAnswer (tag : DownTag) (answer : FinalAnswer)
  | mountAbandonAnswer (tag : DownTag) (answer : FinalAnswer)
  | mountFromFaulted
  | orphanOperationAnswer (tag : DownTag) (answer : FinalAnswer) (data : List Beat)
  | mcsAsserted
  deriving DecidableEq, Repr

end Sys2Proof
end

