-- ==== Sys2Proof/Decode.lean ====
section
/-! DEFINITION. Reading a command from a word. No row of the opcode table gives bits: a command is an event at a port, a
pin or a timer, and the request frames of the M-link are read by `Machine.judgeFrame` (R182) from the bits of a
transaction. -/

namespace Sys2Proof

/-- The command that a word spells by the bits of the opcode table: none, since no row gives bits. -/
def decodeTableWord (_nbits _w : Nat) : Option Instr := none

end Sys2Proof
end

