-- ==== Sys2Proof/Config.lean ====
section
/-! DEFINITION. The capacities of the part ("Capacities at a glance") and the values the manual leaves open. -/

namespace Sys2Proof.Config

/-- Write-queue entries (R23). -/
def wqCapacity : Nat := 32

/-- Read-tracker entries (R36). -/
def rtCapacity : Nat := 8

/-- Records of the in-flight set (R29). -/
def inFlightCapacity : Nat := 8

/-- Captures in progress (R52). -/
def captureCapacity : Nat := 4

/-- Granule-filter records (R44). -/
def filterCapacity : Nat := 1024

/-- Downstream tags (R145). -/
def downTags : Nat := 48

/-- Region entries (R121). -/
def regionCount : Nat := 16

/-- Incident-log records (R167). -/
def incidentCapacity : Nat := 16

/-- Completion-list records (R169). -/
def completionCapacity : Nat := 4

/-- The value at which the drop counter and the discarded-before count hold (R167, R169). -/
def countCeiling : Nat := 255

/-- The sum, wrapping modulo 2^32, of the sixteen words of a slot with a valid check (R6). -/
def slotSum : Word := 0x5EC72408#32

/-- The sum, modulo 256, of the bytes of a frame with a valid check (R182). -/
def frameSum : Byte := 0xA5#8

/-- FULL_WAIT_US of this value waits without a time limit (R12). -/
def noWaitLimit : Word := 65535#32

/-- How many steps that the part takes by itself may follow one another inside one event.
DESIGN CHOICE (log entry 3): the manual has no such bound. -/
def settleFuel : Nat := 1000

/-- FREE VALUE (log entry 8): whether RECOVER chooses anchor A when both anchors are valid, of one instance, and
their generations are exactly 2^31 apart, so that neither is later and they are not equal: no row of R110 applies.
The arguments are the generations of A and B. -/
opaque halfwayAnchorIsA : Word → Word → Bool

/-- FREE VALUE (log entry 9): whether R116's "later of" the anchor's next epoch number and the highest epoch plus 1
gives the anchor's number when the two are exactly 2^31 apart, so that neither is later. -/
opaque halfwayEpochIsAnchors : Word → Word → Bool

end Sys2Proof.Config
end

