-- ==== Sys2Proof/Machine/Frames.lean ====
section
/-! DEFINITION. Words, M-link frames and journal slots as bit layouts: R4, R5, R6, R181, R182, R183 and the
"Conventions" of the scope file. Pure functions; no state. -/

namespace Sys2Proof.Machine

/-- The word whose byte 0 (bits 0–7) is `b0` and whose byte 3 is `b3` (R181). -/
def wordOfBytes (b0 b1 b2 b3 : Byte) : Word := b3 ++ b2 ++ b1 ++ b0

/-- Byte k of a word, byte 0 in bits 0–7 (R181). -/
def byteOf (w : Word) (k : Nat) : Byte := w.extractLsb' (8 * k) 8

/-- The granule address of an address: its five low bits cleared. -/
def granuleOf (a : Word) : Word := a &&& 0xFFFFFFE0#32

/-- "a is later than b": (a − b) mod 2^32 lies in 1..2^31−1. -/
def later (a b : Word) : Bool :=
  decide (1 ≤ (a - b).toNat) && decide ((a - b).toNat ≤ 2147483647)

/-! ### Journal slots -/

/-- The sum of a slot's words, wrapping modulo 2^32 (R6). -/
def wordSum (ws : List Word) : Word := ws.foldl (· + ·) 0#32

/-- A slot has a valid check when it is sixteen words whose sum is 0x5EC72408 (R6). -/
def validCheck (ws : List Word) : Bool := decide (ws.length = 16) && decide (wordSum ws = Config.slotSum)

/-- The check word for a slot whose other words are `ws` (R6). -/
def checkWord (ws : List Word) : Word := Config.slotSum - wordSum ws

/-- The kinds of slot and their codes (R4). -/
inductive SlotKind where
  | openSlot
  | undo
  | close
  | abandon
  | anchor
  deriving DecidableEq, Repr

/-- Kind codes (R4). -/
def SlotKind.code : SlotKind → Byte
  | .openSlot => 1
  | .undo => 2
  | .close => 3
  | .abandon => 4
  | .anchor => 10

/-- Word 0 of a slot: kind code, format version 1, upper half zero (R4, R5). -/
def kindWord (k : SlotKind) : Word := wordOfBytes k.code 1 0 0

/-- The kind code of a slot read back: word 0, bits 0–7 (R7). -/
def kindCode (ws : List Word) : Byte := byteOf (ws.getD 0 0) 0

/-- A ring slot as the part writes it (R4), its check word set under R6. `payload` is words 8 to 15. -/
def ringSlot (k : SlotKind) (journal sequence epoch address count initiator : Word) (payload : List Word) : List Word :=
  let front := [kindWord k, journal, sequence, epoch, address, count, initiator]
  front ++ [checkWord (front ++ payload)] ++ payload

/-- Words 8 to 15 of a slot that is no UNDO (R4). -/
def zeroPayload : List Word := List.replicate 8 0#32

/-- A marker slot: OPEN, CLOSE or ABANDON (R4). -/
def markerSlot (k : SlotKind) (journal sequence epoch count : Word) : List Word :=
  ringSlot k journal sequence epoch 0 count 0 zeroPayload

/-- An anchor as the anchor writer fills it (R5), its check word in word 15. -/
def anchorSlot (journal generation slots tail tailSequence nextEpoch lastCommitted : Word) : List Word :=
  let front := [kindWord .anchor, journal, generation, slots, tail, tailSequence, nextEpoch, lastCommitted]
    ++ List.replicate 7 0#32
  front ++ [checkWord front]

/-- The two words of a beat, the word at the lower address first, each stored little-endian. -/
def wordsOfBeat (b : Beat) : List Word := [b.extractLsb' 0 32, b.extractLsb' 32 32]

/-- The words of a run of beats, word 0 from the lowest address (R147). -/
def wordsOfBeats (bs : List Beat) : List Word := bs.flatMap wordsOfBeat

/-- The beats that hold a run of words, two words to a beat, word 0 at the lowest address. -/
def beatsOfWords : List Word → List Beat
  | lo :: hi :: rest => (hi ++ lo) :: beatsOfWords rest
  | _ => []

/-! ### M-link frames -/

/-- The sum of the four bytes of a word, modulo 256. -/
def byteSum (w : Word) : Byte := byteOf w 0 + byteOf w 1 + byteOf w 2 + byteOf w 3

/-- The sum of all the bytes of a frame, modulo 256 (R182). -/
def frameSum (ws : List Word) : Byte := ws.foldl (fun a w => a + byteSum w) 0

/-- A frame has a valid check when its bytes sum to 0xA5 modulo 256 (R182). -/
def validFrame (ws : List Word) : Bool := decide (frameSum ws = Config.frameSum)

/-- A frame of the layout of R181: code, sequence, count and check byte in word 0, then the words. -/
def buildFrame (code sequence : Byte) (ws : List Word) : List Word :=
  let n := BitVec.ofNat 8 ws.length
  wordOfBytes code sequence n (Config.frameSum - (code + sequence + n + frameSum ws)) :: ws

/-- Response codes (R183). -/
inductive Response where
  | empty
  | done
  | started
  | busy
  | refused
  | unknownCommand
  | badArgument
  | frameError
  deriving DecidableEq, Repr

/-- Response codes (R183). -/
def Response.code : Response → Byte
  | .empty => 0
  | .done => 1
  | .started => 2
  | .busy => 3
  | .refused => 4
  | .unknownCommand => 5
  | .badArgument => 6
  | .frameError => 7

/-- Refusal reasons (R183). -/
inductive Reason where
  | notMounted
  | noEpoch
  | epochOpen
  | journalFull
  | wrongState
  | holding
  | geometry
  deriving DecidableEq, Repr

/-- Reason codes (R183). -/
def Reason.code : Reason → Word
  | .notMounted => 1
  | .noEpoch => 2
  | .epochOpen => 3
  | .journalFull => 4
  | .wrongState => 5
  | .holding => 6
  | .geometry => 7

/-- The empty-response frame: EMPTY, sequence echo 0, result count 0, check byte 0xA5 (R179). -/
def emptyFrame : List Word := buildFrame Response.empty.code 0 []

/-- The bits of a word, bit 0 first (R179). -/
def bitsOfWord (w : Word) : List Bool := (List.range 32).map (fun k => w.getLsbD k)

/-- The word whose bit k is the k-th of up to 32 bits (R179). -/
def wordOfBits (bits : List Bool) : Word :=
  bits.foldr (fun b (w : Word) => (w <<< 1) ||| (if b then 1#32 else 0#32)) 0#32

/-- The first `n` whole words of a run of bits. -/
def wordsOfBits : Nat → List Bool → List Word
  | 0, _ => []
  | n + 1, bits => wordOfBits (bits.take 32) :: wordsOfBits n (bits.drop 32)

/-- A request frame as the M-link reads it. -/
structure RequestFrame where
  code : Byte
  sequence : Byte
  args : List Word
  deriving DecidableEq, Repr

/-- The judgement of R182: the request frame the bits of a transaction form, or the sequence echo of the FRAME_ERROR.
The words after the first 1 + argument count are fill. -/
def judgeFrame (bits : List Bool) : Except Byte RequestFrame :=
  let ws := wordsOfBits (bits.length / 32) bits
  match ws with
  | [] => .error 0
  | w0 :: rest =>
    let n := (byteOf w0 2).toNat
    if bits.length % 32 = 0 ∧ n ≤ 6 ∧ n ≤ rest.length ∧ validFrame (w0 :: rest.take n) = true then
      .ok { code := byteOf w0 0, sequence := byteOf w0 1, args := rest.take n }
    else .error (byteOf w0 1)

/-- The bits a partner shifts in for a request frame of this code, sequence and arguments (R181). -/
def requestBits (code sequence : Byte) (args : List Word) : List Bool :=
  (buildFrame code sequence args).flatMap bitsOfWord

/-- The commands of the link (R181). -/
inductive LinkCommand where
  | nop
  | readStatus
  | beginEpoch
  | commitEpoch
  | abortEpoch
  | formatJournal
  | recoverJournal
  | setParam
  | getParam
  | writeRegion
  | readRegion
  | readAlerts
  | clearAlerts
  | popIncident
  | popCompletion
  | resetPart
  deriving DecidableEq, Repr

/-- The command a code names (R181); none where the table has no such code (R184). -/
def linkCommand (code : Byte) : Option LinkCommand :=
  match code.toNat with
  | 0x01 => some .nop
  | 0x02 => some .readStatus
  | 0x10 => some .beginEpoch
  | 0x11 => some .commitEpoch
  | 0x12 => some .abortEpoch
  | 0x20 => some .formatJournal
  | 0x21 => some .recoverJournal
  | 0x30 => some .setParam
  | 0x31 => some .getParam
  | 0x38 => some .writeRegion
  | 0x39 => some .readRegion
  | 0x40 => some .readAlerts
  | 0x41 => some .clearAlerts
  | 0x42 => some .popIncident
  | 0x43 => some .popCompletion
  | 0x50 => some .resetPart
  | _ => none

/-- The argument counts the table of R181 gives a command. -/
def LinkCommand.takes : LinkCommand → Nat → Bool
  | .nop, n => n == 0
  | .readStatus, n => n == 0
  | .beginEpoch, n => n == 0
  | .commitEpoch, n => n == 0
  | .abortEpoch, n => n == 0
  | .formatJournal, n => n == 1
  | .recoverJournal, n => n == 0
  | .setParam, n => n == 2
  | .getParam, n => n == 1
  | .writeRegion, n => n == 1 || n == 6
  | .readRegion, n => n == 1
  | .readAlerts, n => n == 0
  | .clearAlerts, n => n == 1
  | .popIncident, n => n == 0
  | .popCompletion, n => n == 0
  | .resetPart, n => n == 1

end Sys2Proof.Machine
end

