-- ==== Sys2Proof/Machine/State.lean ====
section
/-! DEFINITION. The state of the part, block by block (the block table of 00_scope.md), as plain data, and the state
after reset. Fields that the manual does not name are marked MODEL. -/

namespace Sys2Proof.Machine

/-! ### Settings and the Region Table -/

/-- NO_EPOCH_WRITE (R70). -/
inductive NoEpochWrite where
  | pass
  | refuse
  | autoOpen
  deriving DecidableEq, Repr

/-- EXHAUST_ACTION (R154). -/
inductive ExhaustAction where
  | fail
  | persist
  deriving DecidableEq, Repr

/-- HOLD_MODE, and the mode in force of a hold (R172). -/
inductive HoldMode where
  | drain
  | freeze
  deriving DecidableEq, Repr

/-- DEFAULT_CLASS (R123). -/
inductive DefaultClass where
  | plain
  | hole
  deriving DecidableEq, Repr

/-- The settings store: the twelve settings of R186, in order of identifier. -/
structure Settings where
  journalBase : Word
  journalSlots : Word
  noEpochWrite : NoEpochWrite
  fullWaitUs : Word
  lowSpaceSlots : Word
  autoCommitMs : Word
  retryLimit : Word
  exhaustAction : ExhaustAction
  dsTimeoutUs : Word
  holdMode : HoldMode
  defaultClass : DefaultClass
  alertMask : BitVec 6
  deriving DecidableEq, Repr

/-- Class of a range (R121). -/
inductive RegionClass where
  | plain
  | journaled
  | hole
  deriving DecidableEq, Repr

/-- Acknowledgement mode of writes (R131). -/
inductive AckMode where
  | posted
  | waited
  deriving DecidableEq, Repr

/-- A valid region entry (R121). An entry that is not valid is `none` in the table and holds nothing. -/
structure Region where
  base : Word
  exponent : Nat
  cls : RegionClass
  writeMask : BitVec 8
  exemptMask : BitVec 8
  ack : AckMode
  deriving DecidableEq, Repr

/-! ### Write Queue and Read Tracker -/

/-- Class of a write-queue entry (R24). -/
inductive EntryClass where
  | plain
  | journaled
  | exempt
  deriving DecidableEq, Repr

/-- Journal relation of a write-queue entry (R24, R48). -/
inductive Relation where
  | none
  | capture
  | covered
  deriving DecidableEq, Repr

/-- Stage of a write-queue entry (R24, R26). -/
inductive Stage where
  | queued
  | spaceWait
  | undoRead
  | undoWrite
  | ready
  | issued
  deriving DecidableEq, Repr

/-- A write-queue entry (R24). `place` is its place in the acceptance order (R23); other blocks refer to the entry by
it. The retry count of R24 is the retry count of the entry's DATA_WRITE record (R150) and is kept there. -/
structure WriteEntry where
  place : Nat
  tag : UpTag
  initiator : Initiator
  granule : Word
  firstBeat : Nat
  beats : Nat
  masks : List Byte
  data : List Beat
  ack : AckMode
  cls : EntryClass
  relation : Relation
  epoch : Option Word
  slotSeq : Option Word
  stage : Stage
  deriving DecidableEq, Repr

/-- A record of the in-flight set (R29). `entry` is the place of its entry, absent once the entry has left (R33). -/
structure InFlight where
  granule : Word
  tag : DownTag
  entry : Option Nat
  deriving DecidableEq, Repr

/-- Stage of a read-tracker entry (R36). -/
inductive ReadStage where
  | hazardWait
  | issued
  deriving DecidableEq, Repr

/-- A read-tracker entry (R36). Its downstream tag is the tag of its DATA_READ record. -/
structure ReadEntry where
  place : Nat
  tag : UpTag
  initiator : Initiator
  address : Word
  beats : Nat
  stage : ReadStage
  deriving DecidableEq, Repr

/-! ### Undo capture -/

/-- A granule record of the Granule Filter (R44). `link` is the place of the entry whose capture record will cover the
granule. -/
structure FilterRecord where
  granule : Word
  covering : Option Word
  link : Option Nat
  deriving DecidableEq, Repr

/-- A capture record of the capture order (R50); entries are named by place. -/
structure CaptureRecord where
  entry : Nat
  granule : Word
  epoch : Word
  filterless : Bool
  covered : List Nat
  deriving DecidableEq, Repr

/-- Step of a capture in progress (R52). -/
inductive CaptureStep where
  | reading
  | writing
  deriving DecidableEq, Repr

/-- Withdrawal mark of a capture in progress (R52). -/
inductive Mark where
  | none
  | abort
  | fault
  deriving DecidableEq, Repr

/-- A capture in progress (R52). Its downstream tag is the tag of its operation record. -/
structure Capture where
  entry : Nat
  position : Nat
  sequence : Word
  ordinal : Nat
  step : CaptureStep
  oldBytes : Option (List Beat)
  mark : Mark
  deriving DecidableEq, Repr

/-! ### Journal Ring -/

/-- The geometry in use, copied when a mount starts (R1, R106). -/
structure Geometry where
  base : Word
  slots : Nat
  deriving DecidableEq, Repr

/-- Anchor A in slot 0, anchor B in slot 1 (R1). -/
inductive Copy where
  | a
  | b
  deriving DecidableEq, Repr

/-- The ring state (R2). `free` is C − occupancy. `inForce` is the copy in force with the generation it carries;
absent in a FORMAT until its first anchor is acknowledged (R20). `journal` is the field the manual calls instance. -/
structure Ring where
  tail : Nat
  tailSeq : Word
  head : Nat
  occupancy : Nat
  nextSeq : Word
  journal : Word
  owed : Nat
  inForce : Option (Copy × Word)
  frontier : Option Word
  unacked : List Word
  startSeq : Word
  deriving DecidableEq, Repr

/-- The space-waiter record (R12): the waiting capture's entry, its tag, initiator and epoch, and the microseconds left
of its wait timer, absent when the wait has no limit. -/
structure SpaceWaiter where
  entry : Nat
  tag : UpTag
  initiator : Initiator
  epoch : Word
  timer : Option Nat
  deriving DecidableEq, Repr

/-- Claimants of the anchor writer (R17). -/
inductive Claimant where
  | closer
  | rollback
  | mount
  deriving DecidableEq, Repr

/-- An anchor claim (R17): the tail claimed; for a mount claim also the next and last committed epoch numbers (R18);
for the two claims of FORMAT also the copy and generation (R109). -/
structure Claim where
  claimant : Claimant
  tail : Nat
  tailSeq : Word
  numbers : Option (Word × Word)
  target : Option (Copy × Word)
  deriving DecidableEq, Repr

/-- What an anchor write puts in force when it is acknowledged (R18, R19). -/
structure AnchorWrite where
  claimant : Claimant
  copy : Copy
  generation : Word
  tail : Nat
  tailSeq : Word
  numbers : Option (Word × Word)
  deriving DecidableEq, Repr

/-- Ring position and sequence of an allocated slot. -/
structure SlotRef where
  position : Nat
  sequence : Word
  deriving DecidableEq, Repr

/-! ### Epoch Controller -/

/-- Controller states (R63). -/
inductive Controller where
  | unmounted
  | mounting
  | idle
  | active
  | rollingBack
  | faulted
  deriving DecidableEq, Repr

/-- HOST or AUTO: origin of an epoch, trigger of a commit or a mount (R65, R104). -/
inductive Trigger where
  | host
  | auto
  deriving DecidableEq, Repr

/-- The fields both epoch records have (R65). `openedAt` is a value of the microsecond timebase. -/
structure EpochRecord where
  number : Word
  origin : Trigger
  openSlot : Option SlotRef
  undoCount : Nat
  filterless : Nat
  failed : Nat
  openedAt : Nat
  deriving DecidableEq, Repr

/-- Closer stages (R65, R73). NONE is the absence of the closing record. -/
inductive CloserStage where
  | capturing
  | draining
  | marking
  | reclaiming
  deriving DecidableEq, Repr

/-- The closing epoch record (R65). -/
structure ClosingRecord where
  record : EpochRecord
  trigger : Trigger
  stage : CloserStage
  closeSlot : Option SlotRef
  deriving DecidableEq, Repr

/-- An OPEN slot that is allocated and whose slot write has no final answer yet (R69). MODEL: the manual keeps the OPEN
slot in the epoch record, which an abort or a fault may end before the write is answered. -/
structure OpenWrite where
  epoch : Word
  origin : Trigger
  slot : SlotRef
  deriving DecidableEq, Repr

/-- Mount operations (R104). -/
inductive MountKind where
  | format
  | recover
  deriving DecidableEq, Repr

/-- A mount request waiting in FAULTED (R83); the seed is FORMAT's argument. -/
structure MountRequest where
  kind : MountKind
  seed : Word
  deriving DecidableEq, Repr

/-! ### Rollback Engine and Mount Engine -/

/-- The UNDO slot being worked by a replay (R85, R104). -/
structure Cursor where
  position : Nat
  sequence : Word
  ordinal : Nat
  deriving DecidableEq, Repr

/-- Progress of a replay on the slot at its cursor (R85, R114). -/
inductive ReplayStep where
  | reading
  | waiting
  | restoring
  deriving DecidableEq, Repr

/-- Phases of a rollback (R85). -/
inductive RollbackPhase where
  | settling
  | replaying
  | abandoning
  | anchoring
  deriving DecidableEq, Repr

/-- The rollback record (R85). `abortPoint` is the first place of the acceptance order given out after ABORT_EPOCH.
Its downstream tag is the tag of its operation record. -/
structure Rollback where
  epoch : Word
  undoCount : Nat
  abortPoint : Nat
  phase : RollbackPhase
  cursor : Option Cursor
  step : Option ReplayStep
  contents : Option (List Word)
  restored : Nat
  abandonSlot : Option SlotRef
  deriving DecidableEq, Repr

/-- Phases of a mount (R104). -/
inductive MountPhase where
  | readingAnchors
  | writingB
  | writingA
  | scanning
  | replaying
  | abandoning
  | anchoring
  deriving DecidableEq, Repr

/-- What the read of an anchor found (R104). -/
inductive Finding where
  | absent
  | failed
  | read (words : List Word)
  deriving DecidableEq, Repr

/-- The chosen anchor (R104, R110). -/
structure Chosen where
  copy : Copy
  journal : Word
  generation : Word
  tail : Nat
  tailSeq : Word
  nextEpoch : Word
  lastCommitted : Word
  deriving DecidableEq, Repr

/-- Shape states of a scanned run (R112). -/
inductive Shape where
  | empty
  | firstOpen (epoch : Word) (undos : Nat)
  | firstEnded (epoch : Word)
  | secondOpen (epoch : Word) (undos : Nat)
  | secondEnded (epoch : Word)
  deriving DecidableEq, Repr

/-- The mount record (R104). The geometry in use stands in State.geometry. `startPoint` is the first place of the
acceptance order given out after the mount started (R114). Its downstream tags are those of its operation records. -/
structure Mount where
  kind : MountKind
  trigger : Trigger
  seed : Word
  phase : MountPhase
  findingA : Finding
  findingB : Finding
  chosen : Option Chosen
  scanCursor : Option SlotRef
  scanned : Nat
  shape : Shape
  lastClose : Option Word
  highest : Option Word
  scanHead : Option SlotRef
  openEpoch : Option (Word × Nat)
  cursor : Option Cursor
  step : Option ReplayStep
  contents : Option (List Word)
  restored : Nat
  abandonSlot : Option SlotRef
  startPoint : Nat
  deriving DecidableEq, Repr

/-! ### D-port -/

/-- Kinds of downstream operation (R143). -/
inductive OpKind where
  | dataWrite
  | dataRead
  | undoRead
  | slotWrite
  | slotRead
  | restoreWrite
  | anchorRead
  | anchorWrite
  deriving DecidableEq, Repr

/-- What an operation left without a requester still says of its work (R159). -/
inductive Orphan where
  | slot (epoch sequence : Word)
  | anchor (w : AnchorWrite)
  | restore (granule epoch sequence : Word)
  | slotRead
  deriving DecidableEq, Repr

/-- The requester of an operation (R144): a block with its entry, capture, slot or claim. -/
inductive Requester where
  /-- The Write Queue, for the entry at this place. -/
  | entry (place : Nat)
  /-- The Read Tracker, for the entry at this place. -/
  | read (place : Nat)
  /-- The Capture Engine, for the capture in progress of this entry. -/
  | capture (place : Nat)
  /-- The Epoch Controller, for the OPEN slot of this epoch and sequence. -/
  | openSlot (epoch sequence : Word)
  /-- The closer, for its CLOSE slot. -/
  | closer
  /-- The Rollback Engine, for its slot read, restore or ABANDON. -/
  | rollback
  /-- The Mount Engine, for its slot read, restore or ABANDON. -/
  | mount
  /-- The Mount Engine, for its read of this anchor. -/
  | mountAnchor (copy : Copy)
  /-- The anchor writer. -/
  | anchor (w : AnchorWrite)
  /-- No requester: left by an entry to FAULTED (R159). -/
  | orphan (work : Orphan)
  deriving DecidableEq, Repr

/-- State of an operation record (R144) with the tag it holds and, in flight, the microseconds left of its timer
(R150). -/
inductive OpPhase where
  | waiting
  | inFlight (tag : DownTag) (left : Nat)
  | held (tag : DownTag)
  deriving DecidableEq, Repr

/-- An operation record (R144, R150). `ready` is its place in the ready order. `timeout` is DS_TIMEOUT_US as it stood
at the last issue. -/
structure Op where
  ready : Nat
  kind : OpKind
  requester : Requester
  address : Word
  beats : Nat
  masks : List Byte
  data : List Beat
  phase : OpPhase
  retries : Nat
  persisting : Bool
  timeout : Option Word
  deriving DecidableEq, Repr

/-! ### Alert Unit -/

/-- Alert kinds (R163). -/
inductive AlertKind where
  | opDone
  | fault
  | spaceLow
  | incident
  | safe
  | autoEpoch
  deriving DecidableEq, Repr

/-- Incident kinds (R166). -/
inductive IncidentKind where
  | writeProtected
  | journalAreaAccess
  | postedWriteFailed
  | postedWriteNoSpace
  | undoFailed
  | markerFailed
  | anchorFailed
  | restoreFailed
  | slotInvalid
  | retryPersisting
  | dsTimeout
  deriving DecidableEq, Repr

/-- An incident record (R166). -/
structure Incident where
  kind : IncidentKind
  address : Option Word
  initiator : Option Initiator
  tag : Option UpTag
  epoch : Option Word
  sequence : Option Word
  deriving DecidableEq, Repr

/-- Operations that a completion record describes (R169). -/
inductive LongOp where
  | commit
  | abort
  | format
  | recover
  deriving DecidableEq, Repr

/-- Outcomes of long operations (R169, R170). -/
inductive LongOutcome where
  | committed
  | rolledBack
  | formatted
  | mountedClean
  | mountedRolledBack
  | noAnchor
  | geometryMismatch
  | structureError
  | failed
  deriving DecidableEq, Repr

/-- A completion record (R169). -/
structure Completion where
  op : LongOp
  trigger : Trigger
  epoch : Option Word
  outcome : LongOutcome
  countA : Nat
  countB : Nat
  discarded : Nat
  deriving DecidableEq, Repr

/-! ### Hold Controller, M-link and the ports -/

/-- Hold states (R172). -/
inductive HoldState where
  | run
  | holding
  | safe
  deriving DecidableEq, Repr

/-- A link transaction in progress (R179): the frame fixed for MDO at the assertion of MCS#, the bits received on MDI so
far and the number of bits of the frame already shifted. -/
structure Transaction where
  frame : List Word
  received : List Bool
  shifted : Nat
  deriving DecidableEq, Repr

/-- Upstream statuses (R137). -/
inductive Status where
  | ok
  | retry
  | protect
  | noJournal
  | journalFull
  | malformed
  | memError
  | aborted
  deriving DecidableEq, Repr

/-- An upstream response record (R137). -/
structure UpResponse where
  tag : UpTag
  status : Status
  data : List Beat
  deriving DecidableEq, Repr

/-- One issue or reissue of an operation to memory, as memory receives it (R143, R153). -/
structure Issue where
  tag : DownTag
  kind : OpKind
  address : Word
  beats : Nat
  masks : List Byte
  data : List Beat
  deriving DecidableEq, Repr

/-- The state of the part. -/
structure State where
  /-- MODEL: the commands waiting, first in, first out. -/
  pending : List Instr
  /-- RST# is held. DRST# is driven while it is. -/
  rstHeld : Bool
  /-- PFW is asserted. -/
  pfw : Bool
  /-- MCS# is asserted. -/
  mcs : Bool
  /-- The microsecond timebase derived from REFCLK. -/
  timebase : Nat
  settings : Settings
  /-- The sixteen region entries, index 0 first; `none` is an entry that is not valid. -/
  regions : List (Option Region)
  /-- The next place of the acceptance order (R23). -/
  nextPlace : Nat
  /-- Write Queue entries in acceptance order, oldest first. -/
  writeQueue : List WriteEntry
  inFlight : List InFlight
  readTracker : List ReadEntry
  filter : List FilterRecord
  /-- The capture order, head first. -/
  captureOrder : List CaptureRecord
  captures : List Capture
  geometry : Option Geometry
  ring : Option Ring
  spaceWaiter : Option SpaceWaiter
  /-- The claims on the anchor writer not yet answered (R17). -/
  claims : List Claim
  openWrites : List OpenWrite
  controller : Controller
  active : Option EpochRecord
  closing : Option ClosingRecord
  nextEpoch : Option Word
  lastCommitted : Option Word
  /-- Microseconds left of the auto-commit timer; absent while it is stopped (R79). -/
  autoTimer : Option Nat
  mountRequest : Option MountRequest
  rollback : Option Rollback
  mount : Option Mount
  ops : List Op
  /-- The QUARANTINED downstream tags (R145). -/
  quarantined : List DownTag
  /-- The next place of the ready order (R144). -/
  nextReady : Nat
  latched : BitVec 6
  incidents : List Incident
  drops : Nat
  completions : List Completion
  hold : HoldState
  /-- The mode in force; it has meaning while the part holds (R172). -/
  modeInForce : HoldMode
  pendingAuto : Bool
  /-- The pending response frame (R179). -/
  response : Option (List Word)
  transaction : Option Transaction
  /-- MODEL: the bits that the link partner puts on MDI in the MCK cycles to come, one to a cycle, first in, first out. -/
  mdi : List Bool
  /-- SOFT_DRAIN with the RESET_PART request's sequence; absent when NONE (R179). -/
  drain : Option Byte
  /-- MODEL: the upstream responses sent, oldest first. -/
  responses : List UpResponse
  /-- MODEL: the issues and reissues sent to memory, oldest first. -/
  issues : List Issue
  deriving DecidableEq, Repr

/-- The ways the part stops with a fault: none. Every event the manual describes leaves a state, and no command of this
model answers with a fault (log entry 1). Safe: nothing is claimed of a stopped machine. -/
inductive Fault where
  deriving DecidableEq, Repr

/-- The reasons for which a command has no meaning. -/
inductive Refusal where
  /-- Raised by `exec` for a row without a meaning; every row has one, so no command raises it. Safe. -/
  | notModelled (mnemonic : String)
  deriving DecidableEq, Repr

/-- JOURNAL_BASE as STRAP_JBASE gives it (R102). -/
def strapBase (v : Fin 4) : Word :=
  match v with
  | 0 => 0x00000000#32
  | 1 => 0x01000000#32
  | 2 => 0x04000000#32
  | 3 => 0x10000000#32

/-- JOURNAL_SLOTS as STRAP_JSIZE gives it (R102). -/
def strapSlots (v : Fin 4) : Word :=
  match v with
  | 0 => 0#32
  | 1 => 4096#32
  | 2 => 16384#32
  | 3 => 65536#32

/-- The defaults of R186, with the geometry settings from the straps. -/
def defaultSettings (st : Straps) : Settings where
  journalBase := strapBase st.jbase
  journalSlots := strapSlots st.jsize
  noEpochWrite := .refuse
  fullWaitUs := 1000#32
  lowSpaceSlots := 0#32
  autoCommitMs := 0#32
  retryLimit := 4#32
  exhaustAction := .fail
  dsTimeoutUs := 1000#32
  holdMode := .drain
  defaultClass := .plain
  alertMask := 0#6

/-- The straps of `State.reset`: every group at 0, automatic recovery off. DESIGN CHOICE (log entry 2): they are board
inputs, and the manual states no value for them. -/
def resetStraps : Straps where
  jbase := 0
  jsize := 0
  autoRecover := false

/-- The part right after power-up: RST# released with `resetStraps`, PFW released, MCS# released, nothing queued.
Each field's rule stands in INVENTORY.md. -/
def State.reset : State where
  pending := []
  rstHeld := false
  pfw := false
  mcs := false
  timebase := 0
  settings := defaultSettings resetStraps
  regions := List.replicate 16 none
  nextPlace := 0
  writeQueue := []
  inFlight := []
  readTracker := []
  filter := []
  captureOrder := []
  captures := []
  geometry := none
  ring := none
  spaceWaiter := none
  claims := []
  openWrites := []
  controller := .unmounted
  active := none
  closing := none
  nextEpoch := none
  lastCommitted := none
  autoTimer := none
  mountRequest := none
  rollback := none
  mount := none
  ops := []
  quarantined := []
  nextReady := 0
  latched := 0#6
  incidents := []
  drops := 0
  completions := []
  hold := .run
  modeInForce := .drain
  pendingAuto := false
  response := none
  transaction := none
  mdi := []
  drain := none
  responses := []
  issues := []

end Sys2Proof.Machine
end

