-- ==== Sys2Proof/Machine/Flags.lean ====
section
/-! DEFINITION. The Alert Unit: the latched alert set, the incident log and the completion list (R163 to R170), and the
output lines that follow state. -/

namespace Sys2Proof.Machine

/-- Bit positions of the alert kinds (R163). -/
def AlertKind.bit : AlertKind → BitVec 6
  | .opDone => 0x01#6
  | .fault => 0x02#6
  | .spaceLow => 0x04#6
  | .incident => 0x08#6
  | .safe => 0x10#6
  | .autoEpoch => 0x20#6

/-- Latches one alert kind (R163). -/
def latch (k : AlertKind) (s : State) : State := { s with latched := s.latched ||| k.bit }

/-- Whether a kind is latched. -/
def State.isLatched (s : State) (k : AlertKind) : Bool := decide (s.latched &&& k.bit ≠ 0#6)

/-- A set of alert kinds as a word: bits 6–31 zero (R163). -/
def alertWord (a : BitVec 6) : Word := a.zeroExtend 32

/-- Bits 6–31 of a word that names alert kinds are zero (R163). -/
def alertWordOk (w : Word) : Bool := decide (w &&& 0xFFFFFFC0#32 = 0#32)

/-- The kinds a word names. -/
def alertsOfWord (w : Word) : BitVec 6 := w.extractLsb' 0 6

/-- ALERT#: asserted exactly when a latched kind is enabled in ALERT_MASK (R164). -/
def State.alertLine (s : State) : Bool := decide (s.latched &&& s.settings.alertMask ≠ 0#6)

/-- SAFE: asserted in SAFE, released in RUN and HOLDING and while RST# is held (R175). -/
def State.safeLine (s : State) : Bool := decide (s.hold = .safe) && !s.rstHeld

/-- DRST#: driven to memory while RST# is held (R149). -/
def State.drstLine (s : State) : Bool := s.rstHeld

/-- Incident kind codes (R166). -/
def IncidentKind.code : IncidentKind → Byte
  | .writeProtected => 1
  | .journalAreaAccess => 2
  | .postedWriteFailed => 3
  | .postedWriteNoSpace => 4
  | .undoFailed => 5
  | .markerFailed => 6
  | .anchorFailed => 7
  | .restoreFailed => 8
  | .slotInvalid => 9
  | .retryPersisting => 10
  | .dsTimeout => 11

/-- An incident that carries no field yet; each kind's fields are those of R166. -/
def Incident.bare (k : IncidentKind) : Incident :=
  { kind := k, address := none, initiator := none, tag := none, epoch := none, sequence := none }

/-- Offers an incident to the log: it joins the young end, or is dropped and counted when the log holds 16. INCIDENT is
latched in both cases (R167). -/
def addIncident (i : Incident) (s : State) : State :=
  latch .incident
    (if s.incidents.length < Config.incidentCapacity then { s with incidents := s.incidents ++ [i] }
     else { s with drops := min (s.drops + 1) Config.countCeiling })

/-- Appends a completion record, discarding the oldest when the list holds 4, and latches OP_DONE (R169). The record's
own discarded-before count is set here. -/
def addCompletion (c : Completion) (s : State) : State :=
  latch .opDone
    (match s.completions with
     | oldest :: rest =>
       if s.completions.length < Config.completionCapacity then
         { s with completions := s.completions ++ [{ c with discarded := 0 }] }
       else
         { s with completions :=
             rest ++ [{ c with discarded := min (1 + oldest.discarded) Config.countCeiling }] }
     | [] => { s with completions := [{ c with discarded := 0 }] })

/-- A count in a result word: its value modulo 2^32. -/
def countWord (n : Nat) : Word := BitVec.ofNat 32 n

/-- One bit in a result word's byte. -/
def flagByte (b : Bool) (k : Nat) : Byte := if b then 1#8 <<< k else 0#8

/-- The six result words of POP_INCIDENT for a record, the drop counter and the records left (R168). -/
def incidentWords (i : Incident) (drops left : Nat) : List Word :=
  [ wordOfBytes i.kind.code
      (flagByte i.address.isSome 0 ||| flagByte i.initiator.isSome 1 ||| flagByte i.tag.isSome 2
        ||| flagByte i.epoch.isSome 3 ||| flagByte i.sequence.isSome 4)
      (BitVec.ofNat 8 drops) 0,
    i.address.getD 0,
    wordOfBytes ((i.initiator.map fun v => BitVec.ofNat 8 v.val).getD 0)
      ((i.tag.map fun v => BitVec.ofNat 8 v.val).getD 0) 0 0,
    i.epoch.getD 0, i.sequence.getD 0, countWord left ]

/-- Operation codes of completion records (R170). -/
def LongOp.code : LongOp → Byte
  | .commit => 1
  | .abort => 2
  | .format => 3
  | .recover => 4

/-- Outcome codes of completion records (R170). -/
def LongOutcome.code : LongOutcome → Byte
  | .committed => 1
  | .rolledBack => 2
  | .formatted => 3
  | .mountedClean => 4
  | .mountedRolledBack => 5
  | .noAnchor => 6
  | .geometryMismatch => 7
  | .structureError => 8
  | .failed => 9

/-- The five result words of POP_COMPLETION for a record and the records left (R170). -/
def completionWords (c : Completion) (left : Nat) : List Word :=
  [ wordOfBytes c.op.code c.outcome.code
      (flagByte (decide (c.trigger = .auto)) 0 ||| flagByte c.epoch.isSome 1) (BitVec.ofNat 8 c.discarded),
    c.epoch.getD 0, countWord c.countA, countWord c.countB, countWord left ]

end Sys2Proof.Machine
end

