-- ==== Sys2Proof/Machine/Operands.lean ====
section
/-! DEFINITION. The operands of the commands: request records, the classification of an address, the geometry tests,
region arguments and the value words of the settings (R1, R121 to R133, R136 to R139, R186). -/

namespace Sys2Proof.Machine

/-! ### Geometry and the journal area -/

/-- The three conditions of a valid geometry (R1). -/
def geometryValid (base : Word) (slots : Nat) : Bool :=
  decide (1024 ≤ slots) && decide (slots ≤ 262144) && decide (slots % 256 = 0)
    && decide (base.toNat % 65536 = 0) && decide (base.toNat + 64 * slots ≤ 4294967296)

/-- Whether an address lies in the journal area (R1): to the top of the address space when the geometry is not valid. -/
def inJournalArea (base : Word) (slots : Nat) (a : Word) : Bool :=
  decide (slots ≠ 0) && decide (base.toNat ≤ a.toNat)
    && (!geometryValid base slots || decide (a.toNat < base.toNat + 64 * slots))

/-- The journal-area test of admission, on the settings as they stand (R125). -/
def State.protects (s : State) (a : Word) : Bool :=
  inJournalArea s.settings.journalBase s.settings.journalSlots.toNat a

/-! ### Requests -/

/-- The burst conditions that READ and WRITE share (R139). -/
def burstOk (address : Word) (beats : Nat) : Bool :=
  decide (address.toNat % 8 = 0) && decide (1 ≤ beats) && decide (beats ≤ 4)
    && decide (address.toNat % 32 / 8 + beats ≤ 4)

/-- Whether an upstream tag is outstanding (R138): from the acceptance of a read or of a WAITED write to its response,
which is sent when its entry leaves. -/
def State.outstanding (s : State) (tag : UpTag) : Bool :=
  s.readTracker.any (fun e => e.tag == tag) || s.writeQueue.any (fun e => e.tag == tag && e.ack == .waited)

/-- R139 for a WRITE. -/
def State.writeMalformed (s : State) (r : WriteRequest) : Bool :=
  !burstOk r.address r.beats || decide (r.data.length ≠ r.beats) || decide (r.masks.length ≠ r.beats)
    || s.outstanding r.tag

/-- R139 for a READ. -/
def State.readMalformed (s : State) (r : ReadRequest) : Bool :=
  !burstOk r.address r.beats || !r.data.isEmpty || !r.masks.isEmpty || s.outstanding r.tag

/-! ### Classification -/

/-- The classification result (R124). -/
structure Classification where
  index : Option Nat
  cls : RegionClass
  writeMask : BitVec 8
  exemptMask : BitVec 8
  ack : AckMode
  deriving DecidableEq, Repr

/-- Whether a valid entry matches an address, the sum computed without wrapping (R122). -/
def Region.covers (r : Region) (a : Word) : Bool :=
  decide (r.base.toNat ≤ a.toNat) && decide (a.toNat ≤ r.base.toNat + 2 ^ r.exponent - 1)

/-- The matching entry of the lowest index, with its index (R122). -/
def firstMatch (a : Word) : Nat → List (Option Region) → Option (Nat × Region)
  | _, [] => none
  | i, none :: rest => firstMatch a (i + 1) rest
  | i, some r :: rest => if r.covers a then some (i, r) else firstMatch a (i + 1) rest

/-- The class DEFAULT_CLASS names (R123). -/
def DefaultClass.cls : DefaultClass → RegionClass
  | .plain => .plain
  | .hole => .hole

/-- The classification of an address (R122, R123, R124). -/
def State.classify (s : State) (a : Word) : Classification :=
  match firstMatch a 0 s.regions with
  | some (i, r) =>
    { index := some i, cls := r.cls, writeMask := r.writeMask, exemptMask := r.exemptMask, ack := r.ack }
  | none =>
    { index := none, cls := s.settings.defaultClass.cls, writeMask := 0xFF#8, exemptMask := 0#8, ack := .posted }

/-- Whether a mask names an initiator: bit k for initiator k (R132). -/
def names (mask : BitVec 8) (i : Initiator) : Bool := mask.getLsbD i.val

/-! ### Region arguments -/

/-- Class codes (R132). -/
def RegionClass.code : RegionClass → Word
  | .plain => 1
  | .journaled => 2
  | .hole => 3

/-- Class of a code (R132). -/
def regionClassOf (w : Word) : Option RegionClass :=
  match w.toNat with
  | 1 => some .plain
  | 2 => some .journaled
  | 3 => some .hole
  | _ => none

/-- Ack mode codes (R132). -/
def AckMode.code : AckMode → Word
  | .posted => 0
  | .waited => 1

/-- Ack mode of a code (R132). -/
def ackModeOf (w : Word) : Option AckMode :=
  match w.toNat with
  | 0 => some .posted
  | 1 => some .waited
  | _ => none

/-- The entry that arguments 2 to 6 of WRITE_REGION describe, or none where one of them is refused (R132). -/
def regionOfArgs (base exponent cls ack masks : Word) : Option Region :=
  match regionClassOf cls, ackModeOf ack with
  | some c, some m =>
    if 12 ≤ exponent.toNat ∧ exponent.toNat ≤ 32 ∧ base.toNat % 2 ^ exponent.toNat = 0
        ∧ masks.extractLsb' 16 16 = 0#16 then
      some { base := base, exponent := exponent.toNat, cls := c, writeMask := byteOf masks 0,
             exemptMask := byteOf masks 1, ack := m }
    else none
  | _, _ => none

/-- The six result words of READ_REGION (R133). -/
def regionWords : Option Region → List Word
  | none => [0, 0, 0, 0, 0, 0]
  | some r => [1, r.base, countWord r.exponent, r.cls.code, r.ack.code, wordOfBytes r.writeMask r.exemptMask 0 0]

/-- What a valid entry satisfies (R121, R132). -/
def Region.legal (r : Region) : Bool :=
  decide (12 ≤ r.exponent) && decide (r.exponent ≤ 32) && decide (r.base.toNat % 2 ^ r.exponent = 0)

/-! ### Settings -/

/-- The value word of a setting by its identifier (R186); none for an identifier outside 1..12. -/
def Settings.get (t : Settings) (id : Nat) : Option Word :=
  match id with
  | 1 => some t.journalBase
  | 2 => some t.journalSlots
  | 3 => some (match t.noEpochWrite with | .pass => 0 | .refuse => 1 | .autoOpen => 2)
  | 4 => some t.fullWaitUs
  | 5 => some t.lowSpaceSlots
  | 6 => some t.autoCommitMs
  | 7 => some t.retryLimit
  | 8 => some (match t.exhaustAction with | .fail => 0 | .persist => 1)
  | 9 => some t.dsTimeoutUs
  | 10 => some (match t.holdMode with | .drain => 0 | .freeze => 1)
  | 11 => some (match t.defaultClass with | .plain => 0 | .hole => 1)
  | 12 => some (alertWord t.alertMask)
  | _ => none

/-- The settings with a value stored, or none where the identifier names no setting or the value is not acceptable
for it (R186, R187 tests 1 and 2). -/
def Settings.put (t : Settings) (id : Nat) (v : Word) : Option Settings :=
  match id with
  | 1 => if v.toNat % 65536 = 0 then some { t with journalBase := v } else none
  | 2 =>
    if v = 0#32 ∨ (1024 ≤ v.toNat ∧ v.toNat ≤ 262144 ∧ v.toNat % 256 = 0) then some { t with journalSlots := v }
    else none
  | 3 =>
    match v.toNat with
    | 0 => some { t with noEpochWrite := .pass }
    | 1 => some { t with noEpochWrite := .refuse }
    | 2 => some { t with noEpochWrite := .autoOpen }
    | _ => none
  | 4 => if v.toNat ≤ 65535 then some { t with fullWaitUs := v } else none
  | 5 => if v.toNat ≤ 65535 then some { t with lowSpaceSlots := v } else none
  | 6 => if v.toNat ≤ 65535 then some { t with autoCommitMs := v } else none
  | 7 =>
    if v = 2#32 ∨ v = 4#32 ∨ v = 16#32 ∨ v = 64#32 then some { t with retryLimit := v } else none
  | 8 =>
    match v.toNat with
    | 0 => some { t with exhaustAction := .fail }
    | 1 => some { t with exhaustAction := .persist }
    | _ => none
  | 9 => if 1 ≤ v.toNat ∧ v.toNat ≤ 4095 then some { t with dsTimeoutUs := v } else none
  | 10 =>
    match v.toNat with
    | 0 => some { t with holdMode := .drain }
    | 1 => some { t with holdMode := .freeze }
    | _ => none
  | 11 =>
    match v.toNat with
    | 0 => some { t with defaultClass := .plain }
    | 1 => some { t with defaultClass := .hole }
    | _ => none
  | 12 => if alertWordOk v then some { t with alertMask := alertsOfWord v } else none
  | _ => none

/-- Every stored value is acceptable for its setting (R186). -/
def Settings.legal (t : Settings) : Bool :=
  decide (t.journalBase.toNat % 65536 = 0)
    && decide (t.journalSlots = 0#32 ∨
        (1024 ≤ t.journalSlots.toNat ∧ t.journalSlots.toNat ≤ 262144 ∧ t.journalSlots.toNat % 256 = 0))
    && decide (t.fullWaitUs.toNat ≤ 65535) && decide (t.lowSpaceSlots.toNat ≤ 65535)
    && decide (t.autoCommitMs.toNat ≤ 65535)
    && decide (t.retryLimit = 2#32 ∨ t.retryLimit = 4#32 ∨ t.retryLimit = 16#32 ∨ t.retryLimit = 64#32)
    && decide (1 ≤ t.dsTimeoutUs.toNat ∧ t.dsTimeoutUs.toNat ≤ 4095)

/-! ### READ_STATUS -/

/-- Controller state codes (R185). -/
def Controller.code : Controller → Byte
  | .unmounted => 0
  | .mounting => 1
  | .idle => 2
  | .active => 3
  | .rollingBack => 4
  | .faulted => 5

/-- Closer stage codes (R185); NONE where there is no closing record (R73). -/
def stageCode : Option ClosingRecord → Byte
  | none => 0
  | some c =>
    match c.stage with
    | .capturing => 1
    | .draining => 2
    | .marking => 3
    | .reclaiming => 4

/-- Hold state codes (R185). -/
def HoldState.code : HoldState → Byte
  | .run => 0
  | .holding => 1
  | .safe => 2

/-- C, the ring capacity of a geometry of `n` slots (R1). -/
def ringCapacity (n : Nat) : Nat := n - 2

/-- C of the geometry in use. -/
def State.capacity (s : State) : Nat := ringCapacity ((s.geometry.map (·.slots)).getD 2)

/-- free = C − occupancy (R2). -/
def State.freeOf (s : State) (r : Ring) : Nat := s.capacity - r.occupancy

/-- Whether READ_STATUS reports the ring counts, which read 0 in UNMOUNTED and MOUNTING (R2). -/
def State.reportsRing (s : State) : Bool := decide (s.controller ≠ .unmounted) && decide (s.controller ≠ .mounting)

/-- A ring count as READ_STATUS reports it (R2). -/
def State.ringCount (s : State) (f : Ring → Nat) : Word :=
  if s.reportsRing then countWord ((s.ring.map f).getD 0) else 0

/-- The eight result words of READ_STATUS (R185, R64). -/
def State.statusWords (s : State) : List Word :=
  [ wordOfBytes s.controller.code (stageCode s.closing) s.hold.code (flagByte s.drain.isSome 0),
    (s.active.map (·.number)).getD 0,
    (s.closing.map (·.record.number)).getD 0,
    s.ringCount s.freeOf,
    s.ringCount (·.occupancy),
    s.ringCount (·.owed),
    alertWord s.latched,
    wordOfBytes (BitVec.ofNat 8 s.incidents.length) (BitVec.ofNat 8 s.completions.length) 0 0 ]

end Sys2Proof.Machine
end

