-- ==== Sys2Proof/Machine/Ops.lean ====
section
/-! DEFINITION. The operations the blocks share: downstream tags and operation records (R143 to R147, R150, R152), the
ring's accounting and allocation (R2, R9, R14, R16), write-queue entries and how they leave (R30, R34, R35), and the
epoch records (R65). -/

namespace Sys2Proof.Machine

/-! ### Write-queue entries -/

/-- The entry at a place of the acceptance order. -/
def State.entryAt (s : State) (p : Nat) : Option WriteEntry := s.writeQueue.find? (fun e => e.place == p)

/-- Changes the entry at a place. -/
def State.setEntry (s : State) (p : Nat) (f : WriteEntry → WriteEntry) : State :=
  { s with writeQueue := s.writeQueue.map (fun e => if e.place = p then f e else e) }

/-- The issue pointer: the oldest entry whose stage is not ISSUED. -/
def State.issuePointer (s : State) : Option WriteEntry := s.writeQueue.find? (fun e => e.stage != .issued)

/-- The address of an entry's DATA_WRITE (R29). -/
def WriteEntry.address (e : WriteEntry) : Word := e.granule + BitVec.ofNat 32 (8 * e.firstBeat)

/-- Whether any entry of an epoch remains in the Write Queue (R30). -/
def State.epochQueued (s : State) (n : Word) : Bool := s.writeQueue.any (fun e => e.epoch == some n)

/-- Whether a write to a granule accepted before a place remains in the Write Queue (R30). -/
def State.writeBefore (s : State) (g : Word) (p : Nat) : Bool :=
  s.writeQueue.any (fun e => e.granule == g && decide (e.place < p))

/-- Sends an upstream response (R137). -/
def respond (tag : UpTag) (st : Status) (data : List Beat) (s : State) : State :=
  { s with responses := s.responses ++ [{ tag := tag, status := st, data := data }] }

/-! ### Operation records and tags -/

/-- The tag a record holds (R145). -/
def OpPhase.tag? : OpPhase → Option DownTag
  | .waiting => none
  | .inFlight t _ => some t
  | .held t => some t

/-- Whether a record is IN_FLIGHT: the operation is in flight (R144). -/
def Op.flying (o : Op) : Bool :=
  match o.phase with
  | .inFlight _ _ => true
  | _ => false

/-- Whether a record is WAITING. -/
def Op.isWaiting (o : Op) : Bool := decide (o.phase = .waiting)

/-- Whether a record is HELD. -/
def Op.isHeld (o : Op) : Bool :=
  match o.phase with
  | .held _ => true
  | _ => false

/-- States of a downstream tag (R145). -/
inductive TagState where
  | free
  | inUse
  | quarantined
  deriving DecidableEq, Repr

/-- The state of a downstream tag (R145): a tag is IN_USE while a record in IN_FLIGHT or HELD holds it. -/
def State.tagState (s : State) (t : DownTag) : TagState :=
  if s.quarantined.contains t then .quarantined
  else if s.ops.any (fun o => o.phase.tag? == some t) then .inUse
  else .free

/-- The lowest-numbered FREE tag (R145). -/
def State.freeTag (s : State) : Option DownTag := (List.finRange 48).find? (fun t => decide (s.tagState t = .free))

/-- The IN_FLIGHT record that holds a tag. -/
def State.flyingAt (s : State) (t : DownTag) : Option Op :=
  s.ops.find? (fun o => o.flying && o.phase.tag? == some t)

/-- Class of an operation for the tag arbiter (R143). -/
def OpKind.arbiterClass : OpKind → Nat
  | .slotWrite => 1
  | .anchorWrite => 1
  | .undoRead => 2
  | .slotRead => 3
  | .restoreWrite => 3
  | .anchorRead => 3
  | .dataWrite => 4
  | .dataRead => 5

/-- Whether an operation reads memory (R143). -/
def OpKind.reads : OpKind → Bool
  | .dataRead => true
  | .undoRead => true
  | .slotRead => true
  | .anchorRead => true
  | _ => false

/-- Whether the requester's hold rules allow an issue or a reissue (R17, R41, R60, R69, R78, R99, R119, R152). -/
def State.mayIssue (s : State) (who : Requester) : Bool :=
  match s.hold with
  | .run => true
  | _ =>
    match s.modeInForce with
    | .freeze => false
    | .drain =>
      match who with
      | .rollback => false
      | .mount => false
      | .mountAnchor _ => false
      | .anchor w => decide (w.claimant = .closer)
      | _ => true

/-- Whether some record belongs to a requester. -/
def State.hasOp (s : State) (who : Requester) : Bool := s.ops.any (fun o => o.requester == who)

/-- Whether the anchor writer has a write under way: one ANCHOR_WRITE at a time (R17). -/
def State.anchorBusy (s : State) : Bool := s.ops.any (fun o => o.kind == .anchorWrite)

/-- Changes the record of a place in the ready order. -/
def State.setOp (s : State) (r : Nat) (f : Op → Op) : State :=
  { s with ops := s.ops.map (fun o => if o.ready = r then f o else o) }

/-- Ends the record of a place in the ready order; a tag it held is FREE by that. -/
def State.dropOp (s : State) (r : Nat) : State := { s with ops := s.ops.filter (fun o => o.ready != r) }

/-- Cancels the WAITING records that a test picks (R146). -/
def State.cancelWaiting (s : State) (p : Op → Bool) : State :=
  { s with ops := s.ops.filter (fun o => !(o.isWaiting && p o)) }

/-- The address of slot i of the journal area of the geometry in use (R1, R143). -/
def State.slotAddress (s : State) (i : Nat) : Word :=
  ((s.geometry.map (·.base)).getD s.settings.journalBase) + BitVec.ofNat 32 (64 * i)

/-- Slot index of an anchor copy (R1). -/
def Copy.slot : Copy → Nat
  | .a => 0
  | .b => 1

/-- The other copy (R18). -/
def Copy.other : Copy → Copy
  | .a => .b
  | .b => .a

/-- The words an anchor write carries, filled when its claim is issued (R5, R17, R18), which is when its record is
created (R144). -/
def State.anchorWords (s : State) (w : AnchorWrite) : List Word :=
  anchorSlot ((s.ring.map (·.journal)).getD 0) w.generation
    (countWord ((s.geometry.map (·.slots)).getD 0)) (countWord w.tail) w.tailSeq
    (match w.numbers with | some n => n.1 | none => s.nextEpoch.getD 0)
    (match w.numbers with | some n => n.2 | none => s.lastCommitted.getD 0)

/-- An issue while SAFE returns the hold state to HOLDING (R176). -/
def leaveSafe (s : State) : State := if s.hold = .safe then { s with hold := .holding } else s

/-- What an issue changes at its requester: the entry becomes ISSUED and its record joins the in-flight set (R27), the
read becomes ISSUED (R39), the closer's stage becomes MARKING (R75). -/
def requesterIssued (o : Op) (t : DownTag) (s : State) : State :=
  match o.requester with
  | .entry p =>
    match s.entryAt p with
    | some e =>
      { s.setEntry p (fun e => { e with stage := .issued }) with
        inFlight := s.inFlight ++ [{ granule := e.granule, tag := t, entry := some p }] }
    | none => s
  | .read p =>
    { s with readTracker := s.readTracker.map (fun e => if e.place = p then { e with stage := .issued } else e) }
  | .closer =>
    { s with closing := s.closing.map (fun c => { c with stage := .marking }) }
  | _ => s

/-- Sends a record to memory under a tag, with the contents fixed when the record was created (R144, R153): it becomes
IN_FLIGHT and its timer starts at DS_TIMEOUT_US (R155). -/
def sendOp (o : Op) (t : DownTag) (retries : Nat) (s : State) : State :=
  leaveSafe
    { s.setOp o.ready (fun o' =>
        { o' with retries := retries, phase := .inFlight t s.settings.dsTimeoutUs.toNat,
                  timeout := some s.settings.dsTimeoutUs }) with
      issues := s.issues ++ [{ tag := t, kind := o.kind, address := o.address, beats := o.beats, masks := o.masks,
                               data := o.data }] }

/-- A grant: the operation of a WAITING record is issued in that event (R145). -/
def grant (o : Op) (t : DownTag) (s : State) : State := requesterIssued o t (sendOp o t 0 s)

/-- A request for a tag (R144, R145): the record enters WAITING, and takes the lowest-numbered FREE tag at once if no
record waits before it. DESIGN CHOICE (log entry 28): the timeout value of a record not issued yet is absent; R150 gives
it a range and no value at creation. -/
def request (kind : OpKind) (who : Requester) (address : Word) (beats : Nat) (masks : List Byte) (data : List Beat)
    (s : State) : State :=
  let o : Op := { ready := s.nextReady, kind := kind, requester := who, address := address, beats := beats,
                  masks := masks, data := data, phase := .waiting, retries := 0, persisting := false, timeout := none }
  let s1 := { s with ops := s.ops ++ [o], nextReady := s.nextReady + 1 }
  if s.ops.any (·.isWaiting) then s1
  else
    match s.freeTag with
    | some t => grant o t s1
    | none => s1

/-- Full byte masks for a number of beats (R143). -/
def fullMasks (n : Nat) : List Byte := List.replicate n 0xFF#8

/-- Requests the SLOT_WRITE of a slot: 8 beats with full byte masks at JOURNAL_BASE + 64 × position (R4, R143). -/
def requestSlotWrite (who : Requester) (position : Nat) (ws : List Word) (s : State) : State :=
  request .slotWrite who (s.slotAddress position) 8 (fullMasks 8) (beatsOfWords ws) s

/-- Requests a SLOT_READ of 8 beats (R143). -/
def requestSlotRead (who : Requester) (position : Nat) (s : State) : State :=
  request .slotRead who (s.slotAddress position) 8 [] [] s

/-- Requests a RESTORE_WRITE of words 8 to 15 of a slot to the granule address in its word 4 (R93, R143). -/
def requestRestore (who : Requester) (ws : List Word) (s : State) : State :=
  request .restoreWrite who (ws.getD 4 0) 4 (fullMasks 4) (beatsOfWords (ws.drop 8)) s

/-- Whether the record a tag arbiter prefers: lowest class, then earliest ready order (R145). -/
def Op.before (a b : Op) : Bool :=
  decide (a.kind.arbiterClass < b.kind.arbiterClass)
    || (decide (a.kind.arbiterClass = b.kind.arbiterClass) && decide (a.ready < b.ready))

/-- The record the arbiter chooses among some (R145). -/
def bestOp : List Op → Option Op
  | [] => none
  | o :: rest =>
    match bestOp rest with
    | none => some o
    | some b => if b.before o then some b else some o

/-! ### The ring -/

/-- The ring position after one of a journal of n slots. -/
def nextPosition (n p : Nat) : Nat := if p + 1 < n then p + 1 else 2

/-- The ring position before one of a journal of n slots (R94). -/
def prevPosition (n p : Nat) : Nat := if p ≤ 2 then n - 1 else p - 1

/-- N of the geometry in use. -/
def State.slotsInUse (s : State) : Nat := (s.geometry.map (·.slots)).getD 0

/-- The instance of the ring. -/
def State.journalNumber (s : State) : Word := (s.ring.map (·.journal)).getD 0

/-- Changes the ring state, where there is one. -/
def State.setRing (s : State) (f : Ring → Ring) : State := { s with ring := s.ring.map f }

/-- The ring after one allocation (R9). -/
def Ring.allocated (n : Nat) (r : Ring) : Ring :=
  { r with unacked := r.unacked ++ [r.nextSeq], head := nextPosition n r.head, nextSeq := r.nextSeq + 1,
           occupancy := r.occupancy + 1 }

/-- The position and sequence the next allocation receives (R9). -/
def Ring.nextSlot (r : Ring) : SlotRef := { position := r.head, sequence := r.nextSeq }

/-- SPACE_LOW when an allocation takes free from at or above LOW_SPACE_SLOTS to below it; allocations made in MOUNTING
are not tested (R16). -/
def spaceLowTest (before after : Nat) (s : State) : State :=
  if s.controller ≠ .mounting ∧ s.settings.lowSpaceSlots.toNat ≤ before ∧ after < s.settings.lowSpaceSlots.toNat then
    latch .spaceLow s
  else s

/-- One allocation: the slot given and the state after (R9, R16). None where there is no ring. -/
def allocate (s : State) : Option (SlotRef × State) :=
  match s.ring with
  | none => none
  | some r =>
    let r' := r.allocated s.slotsInUse
    some (r.nextSlot, spaceLowTest (s.freeOf r) (s.freeOf r') { s with ring := some r' })

/-- Changes the owed markers (R10). -/
def State.owe (s : State) (f : Nat → Nat) : State := s.setRing (fun r => { r with owed := f r.owed })

/-- The space test free ≥ M + k (R11); false where there is no ring. -/
def State.hasSpace (s : State) (k : Nat) : Bool :=
  match s.ring with
  | none => false
  | some r => decide (r.owed + k ≤ s.freeOf r)

/-- The frontier after the sequences from `c` on that are allocated and not pending (R14). The fuel is the number of
sequences allocated from `c` on. -/
def advanceFrontier : Nat → Word → List Word → Option Word → Option Word
  | 0, _, _, f => f
  | n + 1, c, waiting, f => if waiting.contains c then f else advanceFrontier n (c + 1) waiting (some c)

/-- The sequence after the frontier; the start sequence while the frontier is absent (R14). -/
def Ring.afterFrontier (r : Ring) : Word :=
  match r.frontier with
  | some f => f + 1
  | none => r.startSeq

/-- An acknowledged slot write (R14). -/
def Ring.acknowledged (q : Word) (r : Ring) : Ring :=
  let waiting := r.unacked.erase q
  { r with unacked := waiting,
           frontier := advanceFrontier (r.nextSeq - r.afterFrontier).toNat r.afterFrontier waiting r.frontier }

/-- The ring takes the acknowledgement of a slot write (R14). -/
def acknowledge (q : Word) (s : State) : State := s.setRing (Ring.acknowledged q)

/-- The frontier covers a sequence: it is present and the sequence is not later than it (R14). -/
def Ring.coversSeq (r : Ring) (q : Word) : Bool :=
  match r.frontier with
  | some f => !later q f
  | none => false

/-- The frontier covers a sequence. -/
def State.coversSeq (s : State) (q : Word) : Bool :=
  match s.ring with
  | some r => r.coversSeq q
  | none => false

/-- The ring after an acknowledged anchor write (R19). -/
def Ring.anchored (w : AnchorWrite) (r : Ring) : Ring :=
  { r with inForce := some (w.copy, w.generation), tail := w.tail, tailSeq := w.tailSeq,
           occupancy := (r.nextSeq - w.tailSeq).toNat }

/-! ### Epoch records -/

/-- Changes the ACTIVE or closing record of an epoch number (R65). -/
def State.mapEpoch (s : State) (n : Word) (f : EpochRecord → EpochRecord) : State :=
  { s with active := s.active.map (fun a => if a.number = n then f a else a),
           closing := s.closing.map (fun c => if c.record.number = n then { c with record := f c.record } else c) }

/-- Adds one to the failed entries of an epoch that is ACTIVE or closing (R32, R34). -/
def countFailed (n : Option Word) (s : State) : State :=
  match n with
  | some n => s.mapEpoch n (fun r => { r with failed := r.failed + 1 })
  | none => s

/-- The record of an epoch that is ACTIVE or closing. -/
def State.epochOf (s : State) (n : Word) : Option EpochRecord :=
  match s.active with
  | some a => if a.number = n then some a else (s.closing.map (·.record)).filter (fun r => r.number == n)
  | none => (s.closing.map (·.record)).filter (fun r => r.number == n)

/-- Whether an epoch is the closing epoch. -/
def State.isClosing (s : State) (n : Word) : Bool := (s.closing.map (·.record.number)) == some n

/-- The hold state is HOLDING or SAFE with the mode freeze in force. -/
def State.frozen (s : State) : Bool := decide (s.hold ≠ .run) && decide (s.modeInForce = .freeze)

/-! ### How an entry leaves the queue -/

/-- The entry of a place leaves the list, and a tag request of its is cancelled (R30, R35, R146). -/
def dequeue (p : Nat) (s : State) : State :=
  { s.cancelWaiting (fun o => o.requester == .entry p) with
    writeQueue := s.writeQueue.filter (fun e => e.place != p) }

/-- The response of a WAITED entry as it leaves (R30). -/
def answerWaited (e : WriteEntry) (st : Status) (s : State) : State :=
  match e.ack with
  | .waited => respond e.tag st [] s
  | .posted => s

/-- The incident of a POSTED entry: its address, initiator, tag and epoch (R32, R34). -/
def postedIncident (k : IncidentKind) (e : WriteEntry) : Incident :=
  { kind := k, address := some e.address, initiator := some e.initiator, tag := some e.tag, epoch := e.epoch,
    sequence := none }

/-- An entry fails (R32, R34): it leaves, a WAITED entry is answered, a POSTED entry gives its incident, and the failed
entries of its epoch rise. -/
def failEntry (e : WriteEntry) (st : Status) (k : IncidentKind) (s : State) : State :=
  let s1 := dequeue e.place s
  let s2 :=
    match e.ack with
    | .waited => respond e.tag st [] s1
    | .posted => addIncident (postedIncident k e) s1
  countFailed e.epoch s2

/-- An entry fails with JOURNAL_FULL (R34). -/
def failFull (e : WriteEntry) (s : State) : State := failEntry e .journalFull .postedWriteNoSpace s

/-- An entry fails with MEM_ERROR (R32, R34). -/
def failMemory (e : WriteEntry) (s : State) : State := failEntry e .memError .postedWriteFailed s

/-- An entry is withdrawn: it leaves, and a WAITED entry is answered ABORTED (R35). -/
def withdraw (e : WriteEntry) (s : State) : State := answerWaited e .aborted (dequeue e.place s)

/-- Withdraws entries one after another. -/
def withdrawAll (es : List WriteEntry) (s : State) : State := es.foldl (fun s e => withdraw e s) s

end Sys2Proof.Machine
end

