-- ==== Sys2Proof/Machine/Capture.lean ====
section
/-! DEFINITION. Acceptance of writes and reads, the Granule Filter, the capture order, the space wait and the captures
in progress (R12, R13, R25, R27, R37, R38, R44 to R62). -/

namespace Sys2Proof.Machine

/-! ### Acceptance -/

/-- The filter record of a granule (R44). -/
def State.filterAt (s : State) (g : Word) : Option FilterRecord := s.filter.find? (fun r => r.granule == g)

/-- The entry of an accepted write before the Granule Filter is asked (R24, R25). -/
def entryOf (r : WriteRequest) (p : Nat) (cls : EntryClass) (ack : AckMode) : WriteEntry :=
  { place := p, tag := r.tag, initiator := r.initiator, granule := granuleOf r.address,
    firstBeat := r.address.toNat % 32 / 8, beats := r.beats, masks := r.masks, data := r.data, ack := ack, cls := cls,
    relation := .none, epoch := none, slotSeq := none, stage := .ready }

/-- The entry joins the young end of the queue. -/
def enqueue (e : WriteEntry) (s : State) : State :=
  { s with writeQueue := s.writeQueue ++ [e], nextPlace := s.nextPlace + 1 }

/-- A JOURNALED write that hits the filter: COVERED, with the covering sequence if the record holds one, or else on the
covered list of the capture record linked (R45). -/
def enqueueCovered (e : WriteEntry) (epoch : Word) (f : FilterRecord) (s : State) : State :=
  let s1 := enqueue { e with relation := .covered, epoch := some epoch, slotSeq := f.covering } s
  match f.covering with
  | some _ => s1
  | none =>
    { s1 with captureOrder := s1.captureOrder.map (fun c =>
        if some c.entry = f.link then { c with covered := c.covered ++ [e.place] } else c) }

/-- A JOURNALED write that misses the filter: CAPTURE, with a capture record; the filter inserts a record unless it is
full, and the capture is then filterless (R45, R50). -/
def enqueueCapture (e : WriteEntry) (epoch : Word) (s : State) : State :=
  let full := decide (Config.filterCapacity ≤ s.filter.length)
  let s1 := enqueue { e with relation := .capture, epoch := some epoch, stage := .queued } s
  { s1 with
    captureOrder := s1.captureOrder ++
      [{ entry := e.place, granule := e.granule, epoch := epoch, filterless := full, covered := [] }],
    filter := if full then s1.filter
      else s1.filter ++ [{ granule := e.granule, covering := none, link := some e.place }] }

/-- A POSTED write is answered OK at acceptance (R25, R131). -/
def answerPosted (ack : AckMode) (tag : UpTag) (s : State) : State :=
  match ack with
  | .posted => respond tag .ok [] s
  | .waited => s

/-- A write enters the Write Queue (R25): its entry is created, a JOURNALED write is looked up in the filter, and a
POSTED write is answered OK. -/
def acceptWrite (r : WriteRequest) (cls : EntryClass) (ack : AckMode) (s : State) : State :=
  let e := entryOf r s.nextPlace cls ack
  answerPosted ack r.tag
    (match cls, s.active with
    | .journaled, some a =>
      match s.filterAt e.granule with
      | some f => enqueueCovered e a.number f s
      | none => enqueueCapture e a.number s
    | _, _ => enqueue e s)

/-- A read enters the Read Tracker in HAZARD_WAIT (R37). -/
def acceptRead (r : ReadRequest) (s : State) : State :=
  { s with
    readTracker := s.readTracker ++
      [{ place := s.nextPlace, tag := r.tag, initiator := r.initiator, address := r.address, beats := r.beats,
         stage := .hazardWait }],
    nextPlace := s.nextPlace + 1 }

/-! ### Issuing data writes and reads -/

/-- The journal gate of an entry (R28); entries of relation NONE have none (R48). -/
def State.gateOpen (s : State) (e : WriteEntry) : Bool :=
  match e.relation with
  | .none => true
  | _ =>
    match e.slotSeq with
    | some q => s.coversSeq q
    | none => false

/-- The six conditions of R27 for the entry at the issue pointer. -/
def State.writeEligible (s : State) (e : WriteEntry) : Bool :=
  decide (e.stage = .ready) && decide (s.inFlight.length < Config.inFlightCapacity)
    && !s.inFlight.any (fun f => f.granule == e.granule)
    && !s.readTracker.any (fun q => granuleOf q.address == e.granule && decide (q.place < e.place))
    && s.gateOpen e && s.mayIssue (.entry e.place)

/-- Whether a record is a DATA_WRITE that waits for its tag. -/
def Op.waitingWrite (o : Op) : Bool :=
  o.isWaiting &&
    match o.requester with
    | .entry _ => true
    | _ => false

/-- The entry at the issue pointer, when eligible, asks for a tag (R27, R29). Data writes are asked for one at a time:
no other waits for its tag. -/
def dataWriteIssue? (s : State) : Option State :=
  match s.issuePointer with
  | none => none
  | some e =>
    if s.writeEligible e = true ∧ s.hasOp (.entry e.place) = false ∧ s.ops.any (·.waitingWrite) = false then
      some (request .dataWrite (.entry e.place) e.address e.beats e.masks e.data s)
    else none

/-- The three conditions of R38 for a read. -/
def State.readEligible (s : State) (q : ReadEntry) : Bool :=
  decide (q.stage = .hazardWait) && !s.writeBefore (granuleOf q.address) q.place
    && !s.inFlight.any (fun f => f.granule == granuleOf q.address && f.entry.isNone)
    && s.mayIssue (.read q.place)

/-- The oldest read that is eligible and has not asked yet asks for a tag (R38). -/
def dataReadIssue? (s : State) : Option State :=
  match s.readTracker.find? (fun q => s.readEligible q && !s.hasOp (.read q.place)) with
  | none => none
  | some q => some (request .dataRead (.read q.place) q.address q.beats [] [] s)

/-! ### Capture start and the space wait -/

/-- Whether the OPEN slot of an epoch has been allocated (R51). -/
def State.openAllocated (s : State) (n : Word) : Bool :=
  match s.epochOf n with
  | some r => r.openSlot.isSome
  | none => false

/-- Hands a sequence out (R46): to the filter record that links this capture record and to its covered entries. -/
def handOut (c : CaptureRecord) (q : Word) (s : State) : State :=
  { s with
    filter := s.filter.map (fun f => if f.link = some c.entry then { f with covering := some q, link := none } else f),
    writeQueue := s.writeQueue.map (fun e => if c.covered.contains e.place then { e with slotSeq := some q } else e) }

/-- The UNDO allocation of a capture (R52). None where there is no ring. -/
def allocateUndo (c : CaptureRecord) (s : State) : Option State :=
  match allocate s with
  | none => none
  | some (slot, s1) =>
    let s2 := s1.mapEpoch c.epoch (fun r =>
      { r with undoCount := r.undoCount + 1, filterless := if c.filterless then r.filterless + 1 else r.filterless })
    let ordinal := ((s2.epochOf c.epoch).map (·.undoCount)).getD 0
    let s3 := s2.setEntry c.entry (fun e => { e with slotSeq := some slot.sequence, stage := .undoRead })
    let s4 := handOut c slot.sequence s3
    some { s4 with
      captureOrder := s4.captureOrder.filter (fun r => r.entry != c.entry),
      captures := s4.captures ++
        [{ entry := c.entry, position := slot.position, sequence := slot.sequence, ordinal := ordinal,
           step := .reading, oldBytes := none, mark := .none }] }

/-- A capture fails before allocating (R56): its entry fails with JOURNAL_FULL, its record leaves the order, its filter
record is removed, and every entry on its covered list fails with JOURNAL_FULL, in list order. -/
def failForSpace (c : CaptureRecord) (s : State) : State :=
  let s1 := { s with
    captureOrder := s.captureOrder.filter (fun r => r.entry != c.entry),
    filter := s.filter.filter (fun f => f.link != some c.entry),
    spaceWaiter := s.spaceWaiter.filter (fun w => w.entry != c.entry) }
  (c.entry :: c.covered).foldl (fun s p =>
    match s.entryAt p with
    | some e => failFull e s
    | none => s) s1

/-- The head's start conditions 1 to 4 (R51). While a capture waits for space none starts: it stays head, and the
records behind it wait (R12, R51). -/
def State.mayStart (s : State) (c : CaptureRecord) (e : WriteEntry) : Bool :=
  decide (e.stage = .queued) && s.spaceWaiter.isNone && decide (s.captures.length < Config.captureCapacity)
    && s.openAllocated c.epoch
    && !s.writeBefore c.granule c.entry && s.mayIssue (.capture c.entry)

/-- A capture that finds no space fails at once or enters the space wait (R12). -/
def noSpace (c : CaptureRecord) (e : WriteEntry) (s : State) : State :=
  if s.isClosing c.epoch ∨ s.settings.fullWaitUs = 0#32 then failForSpace c s
  else
    { s.setEntry c.entry (fun e => { e with stage := .spaceWait }) with
      spaceWaiter := some
        { entry := c.entry, tag := e.tag, initiator := e.initiator, epoch := c.epoch,
          timer := if s.settings.fullWaitUs = Config.noWaitLimit then none
                   else some s.settings.fullWaitUs.toNat } }

/-- The head of the capture order starts, fails for space or begins to wait (R51, R12). -/
def captureStart? (s : State) : Option State :=
  match s.captureOrder with
  | [] => none
  | c :: _ =>
    match s.entryAt c.entry, s.ring with
    | some e, some _ =>
      if s.mayStart c e then
        if s.hasSpace 1 then allocateUndo c s else some (noSpace c e s)
      else none
    | _, _ => none

/-- The waiting capture's record. -/
def State.waitingRecord (s : State) : Option CaptureRecord :=
  match s.spaceWaiter with
  | none => none
  | some w => s.captureOrder.find? (fun c => c.entry == w.entry)

/-- The space is granted: the waiter allocates and its timer is cancelled (R13). -/
def spaceGranted? (s : State) : Option State :=
  match s.waitingRecord with
  | none => none
  | some c => if s.hasSpace 1 then allocateUndo c { s with spaceWaiter := none } else none

/-- The wait timer expires and the capture fails JOURNAL_FULL (R13, R56). A wait without limit has no timer. -/
def spaceWaitExpires? (s : State) : Option State :=
  match s.spaceWaiter, s.waitingRecord with
  | some w, some c => if w.timer.isSome then some (failForSpace c s) else none
  | _, _ => none

/-! ### Captures in progress -/

/-- The capture in progress of an entry. -/
def State.captureOf (s : State) (p : Nat) : Option Capture := s.captures.find? (fun c => c.entry == p)

/-- Changes the capture in progress of an entry. -/
def State.setCapture (s : State) (p : Nat) (f : Capture → Capture) : State :=
  { s with captures := s.captures.map (fun c => if c.entry = p then f c else c) }

/-- The capture in progress of an entry ends. -/
def endCapture (p : Nat) (s : State) : State := { s with captures := s.captures.filter (fun c => c.entry != p) }

/-- The UNDO slot of a capture (R53, R4). -/
def State.undoSlot (s : State) (c : Capture) (e : WriteEntry) : List Word :=
  ringSlot .undo s.journalNumber c.sequence (e.epoch.getD 0) e.granule (countWord c.ordinal)
    (BitVec.ofNat 32 e.initiator.val) (wordsOfBeats (c.oldBytes.getD []))

/-- The operation a capture asks for in its step: the undo read (R53) or the slot write (R54). -/
def requestCapture (c : Capture) (e : WriteEntry) (s : State) : State :=
  match c.step with
  | .reading => request .undoRead (.capture c.entry) e.granule 4 [] [] s
  | .writing => requestSlotWrite (.capture c.entry) c.position (s.undoSlot c e) s

/-- The oldest capture in progress that has to ask for a tag and may asks (R53, R54, R60). A capture marked FAULT asks
for nothing (R58). -/
def captureIssue? (s : State) : Option State :=
  match s.captures.find? (fun c =>
      decide (c.mark ≠ .fault) && !s.hasOp (.capture c.entry) && s.mayIssue (.capture c.entry)
        && (s.entryAt c.entry).isSome) with
  | none => none
  | some c =>
    match s.entryAt c.entry with
    | some e => some (requestCapture c e s)
    | none => none

end Sys2Proof.Machine
end

