-- ==== Sys2Proof/Machine/Epoch.lean ====
section
/-! DEFINITION. The Epoch Controller: opening, commit acceptance, the closer, the auto-commit timer, and entry to FAULTED
with what it ends in every block (R21, R58, R65 to R82, R100, R159). -/

namespace Sys2Proof.Machine

/-! ### Opening an epoch -/

/-- The epoch number after one: from 2^32−1 to 1, never to 0 (R66). -/
def epochAfter (n : Word) : Word := if n + 1 = 0#32 then 1#32 else n + 1

/-- Whether an opening defers its OPEN: the closer is in CAPTURING with its CLOSE not allocated (R68). -/
def State.defersOpen (s : State) : Bool :=
  match s.closing with
  | some c => decide (c.stage = .capturing) && c.closeSlot.isNone
  | none => false

/-- The count field of an OPEN slot (R4). -/
def Trigger.code : Trigger → Word
  | .host => 0
  | .auto => 1

/-- The OPEN slot of the ACTIVE epoch is allocated, and its slot write is owed (R69). -/
def allocateOpen (s : State) : State :=
  match s.active, allocate s with
  | some a, some (slot, s1) =>
    { s1 with active := some { a with openSlot := some slot },
              openWrites := s1.openWrites ++ [{ epoch := a.number, origin := a.origin, slot := slot }] }
  | _, _ => s

/-- The auto-commit timer of an epoch that opens now, in microseconds (R79). -/
def Settings.autoTimer (t : Settings) : Option Nat :=
  if t.autoCommitMs = 0#32 then none else some (1000 * t.autoCommitMs.toNat)

/-- AUTO_EPOCH is latched by an auto-open and by an auto-commit (R68, R72, R80). -/
def latchAuto (t : Trigger) (s : State) : State :=
  match t with
  | .auto => latch .autoEpoch s
  | .host => s

/-- The acceptance of an opening (R68). -/
def openEpoch (origin : Trigger) (s : State) : State :=
  let n := s.nextEpoch.getD 0
  let deferred := s.defersOpen
  let s1 := { s with
    active := some { number := n, origin := origin, openSlot := none, undoCount := 0, filterless := 0, failed := 0,
                     openedAt := s.timebase },
    nextEpoch := some (epochAfter n),
    autoTimer := s.settings.autoTimer,
    controller := .active }
  latchAuto origin (if deferred then s1.owe (· + 2) else (allocateOpen s1).owe (· + 1))

/-- The slot words of an OPEN (R69). -/
def State.openWords (s : State) (w : OpenWrite) : List Word :=
  markerSlot .openSlot s.journalNumber w.slot.sequence w.epoch w.origin.code

/-- The oldest OPEN slot write that has to ask for a tag and may asks (R69). In FAULTED none does (R81). -/
def openWriteIssue? (s : State) : Option State :=
  if s.controller = .faulted then none
  else
    match s.openWrites.find? (fun w =>
        !s.hasOp (.openSlot w.epoch w.slot.sequence) && s.mayIssue (.openSlot w.epoch w.slot.sequence)) with
    | none => none
    | some w => some (requestSlotWrite (.openSlot w.epoch w.slot.sequence) w.slot.position (s.openWords w) s)

/-! ### Commit acceptance and the closer -/

/-- A capture of this epoch in the space-waiter record fails, with its cascade (R72 step 4, R13, R56). -/
def failWaiterOf (n : Word) (s : State) : State :=
  match s.spaceWaiter, s.waitingRecord with
  | some w, some c => if w.epoch = n then failForSpace c s else s
  | _, _ => s

/-- Commit acceptance, steps 1 to 6 (R72). The closer's test of step 7 follows in the same event. -/
def acceptCommit (trigger : Trigger) (s : State) : State :=
  match s.active with
  | none => s
  | some a =>
    latchAuto trigger
      (failWaiterOf a.number
        { s with
          closing := some { record := a, trigger := trigger, stage := .capturing, closeSlot := none },
          active := none, controller := .idle, filter := [], autoTimer := none, pendingAuto := false })

/-- CAPTURING passes when no capture record of the closing epoch remains (R74): the CLOSE is allocated, a deferred OPEN
is allocated after it, and the stage becomes DRAINING. -/
def closerCapturingDone? (s : State) : Option State :=
  match s.closing with
  | none => none
  | some c =>
    if c.stage = .capturing ∧ s.captureOrder.any (fun r => r.epoch == c.record.number) = false then
      match allocate s with
      | none => none
      | some (slot, s1) =>
        let s2 := { s1.owe (· - 1) with closing := some { c with stage := .draining, closeSlot := some slot } }
        match s2.active with
        | some a => if a.openSlot.isNone then some ((allocateOpen s2).owe (· - 1)) else some s2
        | none => some s2
    else none

/-- The words of the CLOSE slot (R74). -/
def State.closeWords (s : State) (c : ClosingRecord) (slot : SlotRef) : List Word :=
  markerSlot .close s.journalNumber slot.sequence c.record.number (countWord c.record.undoCount)

/-- DRAINING passes when no entry of the epoch remains and the frontier covers the slot before the CLOSE: the closer
asks for the tag of its CLOSE write (R75). The stage becomes MARKING at the grant. -/
def closeWriteIssue? (s : State) : Option State :=
  match s.closing with
  | none => none
  | some c =>
    match c.closeSlot with
    | none => none
    | some slot =>
      if c.stage = .draining ∧ s.epochQueued c.record.number = false ∧ s.coversSeq (slot.sequence - 1) = true
          ∧ s.mayIssue .closer = true ∧ s.hasOp .closer = false then
        some (requestSlotWrite .closer slot.position (s.closeWords c slot) s)
      else none

/-! ### The anchor writer -/

/-- The copy and generation an anchor write of a claim carries (R18, R109). -/
def State.anchorTarget (s : State) (c : Claim) : Copy × Word :=
  match c.target with
  | some t => t
  | none =>
    match s.ring.bind (·.inForce) with
    | some (copy, g) => (copy.other, g + 1)
    | none => (.b, 1)

/-- The anchor write of a claim (R18). -/
def State.anchorWriteOf (s : State) (c : Claim) : AnchorWrite :=
  let t := s.anchorTarget c
  { claimant := c.claimant, copy := t.1, generation := t.2, tail := c.tail, tailSeq := c.tailSeq, numbers := c.numbers }

/-- Whether a claim meets the conditions of R17 other than the anchor writer being free. -/
def State.claimReady (s : State) (c : Claim) : Bool :=
  s.mayIssue (.anchor (s.anchorWriteOf c))
    && (decide (c.claimant ≠ .rollback) || s.closing.isNone)

/-- A waiting claim whose conditions hold is issued, the closer's first (R17): its ANCHOR_WRITE asks for a tag, with the
contents of that moment (R18, R144). DEDUCED (log entry 13): the moment at which R18, R66 and R96 take an anchor's
epoch numbers is the issue of its claim, not the grant of the tag. -/
def anchorClaimIssue? (s : State) : Option State :=
  if s.anchorBusy then none
  else
    match (s.claims.filter (fun c => c.claimant == .closer) ++ s.claims.filter (fun c => c.claimant != .closer)).find?
        (fun c => s.claimReady c) with
    | none => none
    | some c =>
      let w := s.anchorWriteOf c
      some (request .anchorWrite (.anchor w) (s.slotAddress w.copy.slot) 8 (fullMasks 8)
        (beatsOfWords (s.anchorWords w)) s)

/-- A claim is raised (R17). -/
def raiseClaim (c : Claim) (s : State) : State := { s with claims := s.claims ++ [c] }

/-- The claim of a claimant ends with its anchor write (R19). -/
def endClaim (k : Claimant) (s : State) : State := { s with claims := s.claims.filter (fun c => c.claimant != k) }

/-! ### Auto-commit -/

/-- Whether an auto-commit may be taken now (R80). -/
def State.autoCommitNow (s : State) : Bool :=
  decide (s.controller = .active) && s.closing.isNone && decide (s.hold = .run) && s.drain.isNone

/-- The timer expires: the auto-commit is taken now, or is held pending (R80). Nothing happens while no timer runs. -/
def autoCommitExpires? (s : State) : Option State :=
  match s.autoTimer with
  | none => none
  | some _ =>
    let s1 := { s with autoTimer := none }
    if s.autoCommitNow then some (acceptCommit .auto s1) else some { s1 with pendingAuto := true }

/-- A pending auto-commit is taken when nothing blocks it (R80). -/
def pendingAutoCommit? (s : State) : Option State :=
  if s.pendingAuto = true ∧ s.autoCommitNow = true then some (acceptCommit .auto s) else none

/-! ### Entry to FAULTED -/

/-- Whether a WAITING record belongs to work that an entry to FAULTED ends: every journal-area write and every
operation of the Capture Engine and the Rollback Engine (R58, R81, R82, R100). -/
def Op.endsInFault (o : Op) : Bool :=
  match o.requester with
  | .capture _ => true
  | .openSlot _ _ => true
  | .closer => true
  | .rollback => true
  | .anchor _ => true
  | _ => false

/-- The cursor's sequence of a rollback. -/
def Rollback.cursorSeq (r : Rollback) : Word := (r.cursor.map (·.sequence)).getD 0

/-- What an operation of the closer, the Rollback Engine or the anchor writer says of its work once it has no requester
(R159). -/
def State.orphanOf (s : State) (o : Op) : Option Orphan :=
  match o.requester with
  | .closer => s.closing.bind (fun c => c.closeSlot.map (fun slot => .slot c.record.number slot.sequence))
  | .anchor w => some (.anchor w)
  | .rollback =>
    s.rollback.bind (fun r =>
      match o.kind with
      | .slotRead => some .slotRead
      | .restoreWrite => some (.restore o.address r.epoch r.cursorSeq)
      | _ => r.abandonSlot.map (fun slot => .slot r.epoch slot.sequence))
  | _ => none

/-- The record after its requester's work has been ended by the fault (R159). -/
def State.orphaned (s : State) (o : Op) : Op :=
  match s.orphanOf o with
  | some w => { o with requester := .orphan w }
  | none => o

/-- Whether a capture in progress has an operation issued, IN_FLIGHT or HELD, so that the fault lets it finish (R58). -/
def State.captureIssued (s : State) (p : Nat) : Bool :=
  s.ops.any (fun o => o.requester == .capture p && !o.isWaiting)

/-- The JOURNALED entries an entry to FAULTED withdraws at once: those in QUEUED, SPACE_WAIT or READY, and those whose
capture has issued nothing (R35, R58, R81). -/
def State.faultWithdraws (s : State) (e : WriteEntry) : Bool :=
  decide (e.cls = .journaled) &&
    match e.stage with
    | .queued => true
    | .spaceWait => true
    | .ready => true
    | .undoRead => !s.captureIssued e.place
    | .undoWrite => !s.captureIssued e.place
    | .issued => false

/-- The completion record of a closer that a fault ends before its commit point (R82). -/
def ClosingRecord.failedCompletion (c : ClosingRecord) : Completion :=
  { op := .commit, trigger := c.trigger, epoch := some c.record.number, outcome := .failed,
    countA := c.record.undoCount, countB := c.record.failed, discarded := 0 }

/-- The completion record of a closer that a fault ends (R82): FAILED before its commit point; after it the record
already appended stands. -/
def reportCloser (was : Option ClosingRecord) (s : State) : State :=
  match was with
  | none => s
  | some c => if c.stage = .reclaiming then s else addCompletion c.failedCompletion s

/-- The completion record of a rollback (R96, R100). -/
def Rollback.completion (r : Rollback) (o : LongOutcome) : Completion :=
  { op := .abort, trigger := .host, epoch := some r.epoch, outcome := o, countA := r.undoCount, countB := r.restored,
    discarded := 0 }

/-- The completion record of a rollback that a fault ends (R100). -/
def reportRollback (was : Option Rollback) (s : State) : State :=
  match was with
  | none => s
  | some r => addCompletion (r.completion .failed) s

/-- The Capture Engine at a fault (R58): every capture record is discarded, a capture that has issued nothing ends, and
every other capture takes the mark FAULT. -/
def faultCaptures (s : State) : State :=
  { s with captureOrder := [],
           captures := (s.captures.filter (fun c => s.captureIssued c.entry)).map (fun c => { c with mark := .fault }) }

/-- The D-port at a fault: tag requests of the work that ends are cancelled, and its issued operations lose their
requester (R146, R159). `was` is the state as the fault found it. -/
def faultOps (was s : State) : State :=
  { s with ops := (s.ops.filter (fun o => !(o.isWaiting && o.endsInFault))).map was.orphaned }

/-- The Journal Ring at a fault (R21). -/
def faultRing (s : State) : State :=
  { s.owe (fun _ => 0) with
    spaceWaiter := none, claims := [],
    openWrites := s.openWrites.filter (fun w =>
      s.ops.any (fun o => o.requester == .openSlot w.epoch w.slot.sequence && !o.isWaiting)) }

/-- The Epoch Controller at a fault (R81, R82, R100): FAULT is latched, and the ACTIVE epoch, the closer and a rollback
end. -/
def faultController (s : State) : State :=
  latch .fault
    { s with controller := .faulted, filter := [], active := none, closing := none, rollback := none,
             autoTimer := none, pendingAuto := false }

/-- Entry to FAULTED, one event, from IDLE, ACTIVE or ROLLING_BACK; elsewhere nothing further changes (R81). The
closer's completion record is appended before the rollback's. -/
def enterFaulted (s : State) : State :=
  if s.controller = .idle ∨ s.controller = .active ∨ s.controller = .rollingBack then
    reportRollback s.rollback
      (reportCloser s.closing
        (withdrawAll (s.writeQueue.filter s.faultWithdraws)
          (faultOps s (faultRing (faultCaptures (faultController s))))))
  else s

end Sys2Proof.Machine
end

