-- ==== Sys2Proof/Machine/Rollback.lean ====
section
/-! DEFINITION. ABORT_EPOCH's acceptance and the Rollback Engine (R57, R85 to R100). -/

namespace Sys2Proof.Machine

/-! ### Acceptance of an abort -/

/-- The Capture Engine at an abort of epoch `n` (R57): its capture records are discarded, a space waiter of it leaves
the record, and its captures in progress take the mark ABORT. -/
def abortCaptures (n : Word) (s : State) : State :=
  { s with captureOrder := s.captureOrder.filter (fun c => c.epoch != n),
           spaceWaiter := s.spaceWaiter.filter (fun w => w.epoch != n),
           captures := s.captures.map (fun c =>
             if ((s.entryAt c.entry).bind (·.epoch)) = some n then { c with mark := .abort } else c) }

/-- The entries of an epoch that an abort withdraws at once: those in QUEUED, SPACE_WAIT or READY (R35). -/
def abortWithdraws (n : Word) (e : WriteEntry) : Bool :=
  decide (e.epoch = some n) && (decide (e.stage = .queued) || decide (e.stage = .spaceWait) || decide (e.stage = .ready))

/-- What both forms of an abort end at the Epoch Controller (R87, R88): the ACTIVE record, the filter's contents, the
auto-commit timer and the pending flag. -/
def endActive (c : Controller) (s : State) : State :=
  { s with active := none, controller := c, filter := [], autoTimer := none, pendingAuto := false }

/-- Abort of an epoch whose OPEN is allocated (R87), but for the SETTLING test, which follows in the same event. -/
def abortAllocated (a : EpochRecord) (s : State) : State :=
  let leaving := s.writeQueue.filter (abortWithdraws a.number)
  let s1 := { endActive .rollingBack s with
    rollback := some { epoch := a.number, undoCount := a.undoCount, abortPoint := s.nextPlace, phase := .settling,
                       cursor := none, step := none, contents := none, restored := 0, abandonSlot := none } }
  withdrawAll leaving (abortCaptures a.number s1)

/-- The completion record of an abort of an epoch whose OPEN was deferred (R88). -/
def deferredAbortCompletion (n : Word) : Completion :=
  { op := .abort, trigger := .host, epoch := some n, outcome := .rolledBack, countA := 0, countB := 0, discarded := 0 }

/-- Abort of an epoch whose OPEN is deferred: complete at once (R88). -/
def abortDeferred (a : EpochRecord) (s : State) : State :=
  let leaving := s.writeQueue.filter (fun e => e.epoch == some a.number && e.stage != .issued)
  let s1 := withdrawAll leaving (abortCaptures a.number (endActive .idle s))
  addCompletion (deferredAbortCompletion a.number) (s1.owe (· - 2))

/-- The acceptance of ABORT_EPOCH (R86). -/
def acceptAbort (s : State) : State :=
  match s.active with
  | none => s
  | some a => if a.openSlot.isSome then abortAllocated a s else abortDeferred a s

/-! ### Settling and replay -/

/-- Changes the rollback record. -/
def State.setRollback (s : State) (f : Rollback → Rollback) : State := { s with rollback := s.rollback.map f }

/-- The ABANDON of the rollback is allocated at head and M falls by 1 (R94). -/
def rollbackAbandon (s : State) : State :=
  match allocate s with
  | none => s
  | some (slot, s1) =>
    (s1.owe (· - 1)).setRollback (fun r =>
      { r with phase := .abandoning, cursor := none, step := none, contents := none, abandonSlot := some slot })

/-- SETTLING passes when no entry of the epoch remains and the frontier covers the newest slot of the ring (R90). -/
def rollbackSettled? (s : State) : Option State :=
  match s.rollback, s.ring with
  | some r, some g =>
    if r.phase = .settling ∧ s.epochQueued r.epoch = false ∧ g.coversSeq (g.nextSeq - 1) = true then
      if r.undoCount = 0 then some (rollbackAbandon s)
      else
        some (s.setRollback (fun r =>
          { r with phase := .replaying, step := some .reading,
                   cursor := some { position := prevPosition s.slotsInUse g.head, sequence := g.nextSeq - 1,
                                    ordinal := r.undoCount } }))
    else none
  | _, _ => none

/-- The tests a slot read back in a replay passes (R92). -/
def State.undoSlotOk (s : State) (ws : List Word) (journal epoch : Word) (c : Cursor) : Bool :=
  validCheck ws && decide (kindCode ws = SlotKind.undo.code) && decide (ws.getD 1 0 = journal)
    && decide (ws.getD 2 0 = c.sequence) && decide (ws.getD 3 0 = epoch)
    && decide (ws.getD 5 0 = countWord c.ordinal) && decide ((ws.getD 4 0).toNat % 32 = 0)
    && !inJournalArea ((s.geometry.map (·.base)).getD 0) s.slotsInUse (ws.getD 4 0)

/-- Whether nothing holds back the restore of a granule (R93, R114): no write of it accepted before `point` remains in
the Write Queue, and no in-flight record names it. -/
def State.restoreClear (s : State) (g : Word) (point : Nat) : Bool :=
  !s.writeBefore g point && !s.inFlight.any (fun f => f.granule == g)

/-- The words of the rollback's ABANDON (R94). -/
def State.abandonWords (s : State) (r : Rollback) (slot : SlotRef) : List Word :=
  markerSlot .abandon s.journalNumber slot.sequence r.epoch (countWord r.restored)

/-- The rollback asks for the tag of its SLOT_READ (R91) or of its ABANDON's SLOT_WRITE (R95). -/
def rollbackIssue? (s : State) : Option State :=
  match s.rollback with
  | none => none
  | some r =>
    if s.mayIssue .rollback = true ∧ s.hasOp .rollback = false then
      match r.phase, r.step, r.cursor, r.abandonSlot with
      | .replaying, some .reading, some c, _ => some (requestSlotRead .rollback c.position s)
      | .abandoning, _, _, some slot =>
        some (requestSlotWrite .rollback slot.position (s.abandonWords r slot) s)
      | _, _, _, _ => none
    else none

/-- WAITING passes, and the rollback asks for the tag of its RESTORE_WRITE (R93). The step becomes RESTORING whatever
the hold state; the request follows the hold (R99). -/
def rollbackRestoreIssue? (s : State) : Option State :=
  match s.rollback with
  | none => none
  | some r =>
    match r.phase, r.step, r.contents with
    | .replaying, some .waiting, some ws =>
      if s.restoreClear (ws.getD 4 0) r.abortPoint then
        let s1 := s.setRollback (fun r => { r with step := some .restoring })
        if s.mayIssue .rollback = true ∧ s.hasOp .rollback = false then some (requestRestore .rollback ws s1)
        else some s1
      else none
    | .replaying, some .restoring, some ws =>
      if s.mayIssue .rollback = true ∧ s.hasOp .rollback = false then some (requestRestore .rollback ws s) else none
    | _, _, _ => none

/-! ### Answers to the rollback's operations -/

/-- An incident that carries an epoch and a sequence (R166). -/
def slotIncident (k : IncidentKind) (epoch sequence : Word) : Incident :=
  { Incident.bare k with epoch := some epoch, sequence := some sequence }

/-- A RESTORE_FAILED incident (R91, R93, R114, R159). -/
def restoreIncident (address epoch sequence : Word) : Incident :=
  { slotIncident .restoreFailed epoch sequence with address := some address }

/-- OK to the rollback's SLOT_READ: the slot is verified (R91, R92). -/
def rollbackReadOk (ws : List Word) (s : State) : State :=
  match s.rollback with
  | none => s
  | some r =>
    match r.cursor with
    | none => s
    | some c =>
      if s.undoSlotOk ws s.journalNumber r.epoch c then
        s.setRollback (fun r => { r with contents := some ws, step := some .waiting })
      else
        enterFaulted (addIncident (slotIncident .slotInvalid r.epoch c.sequence)
          (s.setRollback (fun r => { r with contents := some ws })))

/-- The cursor one slot back (R94). -/
def Cursor.back (n : Nat) (c : Cursor) : Cursor :=
  { position := prevPosition n c.position, sequence := c.sequence - 1, ordinal := c.ordinal - 1 }

/-- OK to the rollback's RESTORE_WRITE: the restored count rises and the cursor steps back; after ordinal 1 the ABANDON
is allocated (R93, R94). -/
def rollbackRestoreOk (s : State) : State :=
  match s.rollback with
  | none => s
  | some r =>
    match r.cursor with
    | none => s
    | some c =>
      let s1 := s.setRollback (fun r => { r with restored := r.restored + 1 })
      if c.ordinal ≤ 1 then rollbackAbandon s1
      else
        s1.setRollback (fun r =>
          { r with cursor := some (c.back s.slotsInUse), contents := none, step := some .reading })

/-- OK to the ABANDON's SLOT_WRITE: the frontier takes it and the rollback's claim is raised (R95). -/
def rollbackAbandonOk (s : State) : State :=
  match s.rollback, s.ring with
  | some r, some g =>
    let s1 := match r.abandonSlot with
      | some slot => acknowledge slot.sequence s
      | none => s
    raiseClaim { claimant := .rollback, tail := g.head, tailSeq := g.nextSeq, numbers := none, target := none }
      (s1.setRollback (fun r => { r with phase := .anchoring }))
  | _, _ => s

/-- A final failure of one of the rollback's operations (R91, R93, R95): its incident, and FAULTED. -/
def rollbackOpFailed (o : Op) (s : State) : State :=
  match s.rollback with
  | none => s
  | some r =>
    let i :=
      match o.kind with
      | .slotWrite => slotIncident .markerFailed r.epoch ((r.abandonSlot.map (·.sequence)).getD 0)
      | _ => restoreIncident o.address r.epoch r.cursorSeq
    enterFaulted (addIncident i s)

/-- OK to one of the rollback's operations. -/
def rollbackOpOk (o : Op) (data : List Beat) (s : State) : State :=
  match o.kind with
  | .slotRead => rollbackReadOk (wordsOfBeats data) s
  | .restoreWrite => rollbackRestoreOk s
  | _ => rollbackAbandonOk s

/-- The rollback's anchor is acknowledged: the abort completes (R96). -/
def rollbackComplete (s : State) : State :=
  match s.rollback with
  | none => s
  | some r => addCompletion (r.completion .rolledBack) { s with rollback := none, controller := .idle }

end Sys2Proof.Machine
end

