-- ==== Sys2Proof/Machine/Mount.lean ====
section
/-! DEFINITION. The Mount Engine: start of a mount, FORMAT, RECOVER with its scan and replay, outcomes and failures
(R20, R83, R106 to R119, R160). -/

namespace Sys2Proof.Machine

/-! ### Start of a mount -/

/-- A mount record as it is created (R106). -/
def freshMount (kind : MountKind) (trigger : Trigger) (seed : Word) (point : Nat) : Mount :=
  { kind := kind, trigger := trigger, seed := seed, phase := .readingAnchors, findingA := .absent, findingB := .absent,
    chosen := none, scanCursor := none, scanned := 0, shape := .empty, lastClose := none, highest := none,
    scanHead := none, openEpoch := none, cursor := none, step := none, contents := none, restored := 0,
    abandonSlot := none, startPoint := point }

/-- A HELD SLOT_WRITE, ANCHOR_WRITE or RESTORE_WRITE, which the start of a mount cancels (R160). -/
def Op.heldJournalWrite (o : Op) : Bool :=
  o.isHeld && (o.kind == .slotWrite || o.kind == .anchorWrite || o.kind == .restoreWrite)

/-- The start of a mount (R106, R160): the record is created, the geometry is copied, the ring state kept in FAULTED is
dropped with what belonged to it, and both epoch numbers become absent. -/
def startMount (kind : MountKind) (trigger : Trigger) (seed : Word) (s : State) : State :=
  { s with
    controller := .mounting,
    mount := some (freshMount kind trigger seed s.nextPlace),
    geometry := some { base := s.settings.journalBase, slots := s.settings.journalSlots.toNat },
    ring := none, openWrites := [], claims := [], mountRequest := none, nextEpoch := none, lastCommitted := none,
    ops := s.ops.filter (fun o => !o.heldJournalWrite) }

/-- Whether a journal-area operation or a RESTORE_WRITE that R83 waits for is in flight. -/
def Op.blocksMount (o : Op) : Bool :=
  o.flying && (o.kind == .slotWrite || o.kind == .anchorWrite || o.kind == .restoreWrite)

/-- A mount request waiting in FAULTED starts when both conditions of R83 hold. DESIGN CHOICE (log entry 31): whatever
event makes them hold. R83's list of the events at which they are tested leaves out a BUSY answer that makes the last
journal write in flight HELD. -/
def mountFromFaulted? (s : State) : Option State :=
  match s.mountRequest with
  | none => none
  | some q =>
    if s.controller = .faulted ∧ s.writeQueue.any (fun e => e.cls == .journaled) = false
        ∧ s.ops.any (·.blocksMount) = false then
      some (startMount q.kind .host q.seed s)
    else none

/-- Changes the mount record. -/
def State.setMount (s : State) (f : Mount → Mount) : State := { s with mount := s.mount.map f }

/-! ### Ends of a mount -/

/-- The completion record of a mount (R109, R117, R118): FORMAT's counts are 0; RECOVER's are slots scanned and
restored. -/
def Mount.completion (m : Mount) (o : LongOutcome) : Completion :=
  match m.kind with
  | .format =>
    { op := .format, trigger := m.trigger, epoch := none, outcome := o, countA := 0, countB := 0, discarded := 0 }
  | .recover =>
    { op := .recover, trigger := m.trigger, epoch := m.openEpoch.map (·.1), outcome := o, countA := m.scanned,
      countB := m.restored, discarded := 0 }

/-- A mount ends without mounting (R117, R118): the record becomes absent, the controller returns to UNMOUNTED and the
ring state is discarded as after a reset (R20, R22). -/
def endMount (o : LongOutcome) (s : State) : State :=
  match s.mount with
  | none => s
  | some m =>
    addCompletion (m.completion o)
      { s with mount := none, controller := .unmounted, ring := none, geometry := none, claims := [] }

/-- SPACE_LOW at the completion of a mount (R16). -/
def mountSpaceTest (s : State) : State :=
  match s.ring with
  | some r => if s.freeOf r < s.settings.lowSpaceSlots.toNat then latch .spaceLow s else s
  | none => s

/-- A mount succeeds (R109, R117): both epoch numbers are taken, the controller moves to IDLE, the record becomes absent,
the SPACE_LOW test is made and the completion record is appended. -/
def completeMount (o : LongOutcome) (next last : Word) (s : State) : State :=
  match s.mount with
  | none => s
  | some m =>
    addCompletion (m.completion o)
      (mountSpaceTest { s with mount := none, controller := .idle, nextEpoch := some next, lastCommitted := some last })

/-! ### The anchors -/

/-- A well-formed anchor (R7). -/
def anchorWellFormed (ws : List Word) : Bool :=
  validCheck ws && decide (kindCode ws = SlotKind.anchor.code) && decide (ws.getD 1 0 ≠ 0#32)

/-- A valid anchor: well formed, and its word 3 equals the JOURNAL_SLOTS of the mount (R7). -/
def anchorValid (slots : Nat) (ws : List Word) : Bool :=
  anchorWellFormed ws && decide ((ws.getD 3 0).toNat = slots)

/-- The words of an anchor that was read; a failed read passes no test (R7). -/
def Finding.words : Finding → List Word
  | .read ws => ws
  | _ => []

/-- Whether a read of an anchor has its final answer. -/
def Finding.done : Finding → Bool
  | .absent => false
  | _ => true

/-- The anchor found in a copy, as a chosen anchor (R110). -/
def chosenOf (copy : Copy) (ws : List Word) : Chosen :=
  { copy := copy, journal := ws.getD 1 0, generation := ws.getD 2 0, tail := (ws.getD 4 0).toNat, tailSeq := ws.getD 5 0,
    nextEpoch := ws.getD 6 0, lastCommitted := ws.getD 7 0 }

/-- Which of two valid anchors is chosen (R110 rows 4 to 6). Generations exactly 2^31 apart are neither equal nor later
than one another, and no row applies: a free value decides (log entry 8). -/
def chooseOfTwo (a b : List Word) : Copy :=
  let ga := a.getD 2 0
  let gb := b.getD 2 0
  if a.getD 1 0 ≠ b.getD 1 0 then .b
  else if later ga gb then .a
  else if later gb ga then .b
  else if ga = gb then .a
  else if Config.halfwayAnchorIsA ga gb then .a else .b

/-- The instance FORMAT chooses (R108). -/
def formatJournalNumber (slots : Nat) (seed : Word) (a b : Finding) : Word :=
  let found := ([a.words, b.words].filter (anchorValid slots)).map (fun ws => ws.getD 1 0)
  match found with
  | [] => if seed = 0#32 then 1#32 else seed
  | i :: rest =>
    let greatest := rest.foldl (fun m x => if m.toNat < x.toNat then x else m) i
    if greatest = 0xFFFFFFFF#32 then 1#32 else greatest + 1

/-- The ring after a set-up (R20). -/
def setUpRing (journal : Word) (inForce : Option (Copy × Word)) (position : Nat) (sequence : Word) : Ring :=
  { tail := position, tailSeq := sequence, head := position, occupancy := 0, nextSeq := sequence, journal := journal,
    owed := 0, inForce := inForce, frontier := none, unacked := [], startSeq := sequence }

/-- A claim of FORMAT for a copy and generation (R109). -/
def formatClaim (copy : Copy) (generation : Word) : Claim :=
  { claimant := .mount, tail := 2, tailSeq := 1#32, numbers := some (1#32, 0#32), target := some (copy, generation) }

/-- FORMAT with both anchor reads answered: the set-up, and the claim for anchor B (R108). -/
def formatSetUp (m : Mount) (s : State) : State :=
  let j := formatJournalNumber s.slotsInUse m.seed m.findingA m.findingB
  raiseClaim (formatClaim .b 1#32)
    ({ s with ring := some (setUpRing j none 2 1#32), spaceWaiter := none }.setMount (fun m => { m with phase := .writingB }))

/-- The incident of a STRUCTURE_ERROR (R110, R112). -/
def structureError (epoch : Option Word) (sequence : Word) (s : State) : State :=
  endMount .structureError
    (addIncident { Incident.bare .slotInvalid with epoch := epoch, sequence := some sequence } s)

/-- The chosen anchor is checked for sense and the scan begins (R110). -/
def beginScan (c : Chosen) (s : State) : State :=
  if 2 ≤ c.tail ∧ c.tail < s.slotsInUse ∧ c.nextEpoch ≠ 0#32 then
    s.setMount (fun m =>
      { m with chosen := some c, scanCursor := some { position := c.tail, sequence := c.tailSeq }, scanned := 0,
               shape := .empty, phase := .scanning })
  else structureError none c.tailSeq s

/-- RECOVER with both anchor reads answered (R107, R110). -/
def recoverChoose (m : Mount) (s : State) : State :=
  match m.findingA, m.findingB with
  | .read a, .read b =>
    let va := anchorValid s.slotsInUse a
    let vb := anchorValid s.slotsInUse b
    if anchorWellFormed a = false ∧ anchorWellFormed b = false then endMount .noAnchor s
    else if va = false ∧ vb = false then endMount .geometryMismatch s
    else if vb = false then beginScan (chosenOf .a a) s
    else if va = false then beginScan (chosenOf .b b) s
    else
      match chooseOfTwo a b with
      | .a => beginScan (chosenOf .a a) s
      | .b => beginScan (chosenOf .b b) s
  | _, _ => endMount .failed s

/-- The final answer of one anchor read (R107): it is kept, and when both have answered the mount acts. -/
def anchorReadDone (copy : Copy) (f : Finding) (s : State) : State :=
  let s1 := s.setMount (fun m =>
    match copy with
    | .a => { m with findingA := f }
    | .b => { m with findingB := f })
  match s1.mount with
  | none => s1
  | some m =>
    if m.phase = .readingAnchors ∧ m.findingA.done = true ∧ m.findingB.done = true then
      match m.kind with
      | .format => formatSetUp m s1
      | .recover => recoverChoose m s1
    else s1

/-! ### The scan -/

/-- Validity of a slot at a position (R7). -/
def validAt (ws : List Word) (journal sequence : Word) : Bool :=
  validCheck ws && decide (ws.getD 1 0 = journal) && decide (ws.getD 2 0 = sequence)

/-- The next shape state for a slot valid at its position, or none where it matches no row of R112. `undoOk` says that
the granule address of an UNDO is acceptable. -/
def Shape.accept (sh : Shape) (code : Byte) (epoch count : Word) (undoOk : Bool) : Option Shape :=
  match sh with
  | .empty => if code = SlotKind.openSlot.code ∧ epoch ≠ 0#32 then some (.firstOpen epoch 0) else none
  | .firstOpen e n =>
    if code = SlotKind.undo.code ∧ epoch = e ∧ count = countWord (n + 1) ∧ undoOk = true then some (.firstOpen e (n + 1))
    else if (code = SlotKind.close.code ∨ code = SlotKind.abandon.code) ∧ epoch = e ∧ count = countWord n then
      some (.firstEnded e)
    else none
  | .firstEnded e => if code = SlotKind.openSlot.code ∧ later epoch e = true then some (.secondOpen epoch 0) else none
  | .secondOpen e n =>
    if code = SlotKind.undo.code ∧ epoch = e ∧ count = countWord (n + 1) ∧ undoOk = true then
      some (.secondOpen e (n + 1))
    else if (code = SlotKind.close.code ∨ code = SlotKind.abandon.code) ∧ epoch = e ∧ count = countWord n then
      some (.secondEnded e)
    else none
  | .secondEnded _ => none

/-- The epoch a shape leaves open, with its UNDO slots (R112). -/
def Shape.openEpoch : Shape → Option (Word × Nat)
  | .firstOpen e n => some (e, n)
  | .secondOpen e n => some (e, n)
  | _ => none

/-- The later of the chosen anchor's next epoch number and the highest epoch plus 1 (R116). Numbers exactly 2^31 apart
are neither later than one another: a free value decides (log entry 9). -/
def recoveredNextEpoch (anchors : Word) (highest : Option Word) : Word :=
  match highest with
  | none => anchors
  | some h =>
    let n := epochAfter h
    if later n anchors then n
    else if later anchors n ∨ anchors = n then anchors
    else if Config.halfwayEpochIsAnchors anchors n then anchors else n

/-- The mount claim of a recovery (R116). -/
def recoverClaim (m : Mount) (r : Ring) : Claim :=
  { claimant := .mount, tail := r.head, tailSeq := r.nextSeq, target := none,
    numbers := some
      (recoveredNextEpoch ((m.chosen.map (·.nextEpoch)).getD 0) m.highest,
       m.lastClose.getD ((m.chosen.map (·.lastCommitted)).getD 0)) }

/-- ANCHORING is entered and its claim raised (R116). -/
def recoverAnchor (s : State) : State :=
  match s.mount, s.ring with
  | some m, some r => raiseClaim (recoverClaim m r) (s.setMount (fun m => { m with phase := .anchoring }))
  | _, _ => s

/-- The recovery's ABANDON is allocated at head, and M falls by 1 (R115). -/
def recoverAbandon (s : State) : State :=
  match allocate s with
  | none => s
  | some (slot, s1) =>
    (s1.owe (· - 1)).setMount (fun m =>
      { m with phase := .abandoning, cursor := none, step := none, contents := none, abandonSlot := some slot })

/-- The scan stops at a scan head: the set-up of R113, and then replay, ABANDON or anchor. -/
def scanStops (at_ : SlotRef) (s : State) : State :=
  match s.mount with
  | none => s
  | some m =>
    match m.chosen with
    | none => s
    | some c =>
      let seq := at_.sequence + countWord s.capacity
      let found := m.shape.openEpoch
      let s1 := { s with
        ring := some (setUpRing c.journal (some (c.copy, c.generation)) at_.position seq), spaceWaiter := none }
      let s2 := s1.setMount (fun m => { m with scanHead := some at_, openEpoch := found, scanCursor := none })
      match found with
      | none => recoverAnchor s2
      | some (_, n) =>
        let s3 := s2.owe (· + 1)
        if n = 0 then recoverAbandon s3
        else
          s3.setMount (fun m =>
            { m with phase := .replaying, step := some .reading,
                     cursor := some { position := prevPosition s.slotsInUse at_.position,
                                      sequence := at_.sequence - 1, ordinal := n } })

/-- A slot of the scan that is valid at its position and continues the shape (R111, R112). -/
def scanAccepts (at_ : SlotRef) (ws : List Word) (sh : Shape) (s : State) : State :=
  let epoch := ws.getD 3 0
  let s1 := s.setMount (fun m =>
    { m with scanned := m.scanned + 1, shape := sh,
             lastClose := if kindCode ws = SlotKind.close.code then some epoch else m.lastClose,
             highest := if kindCode ws = SlotKind.openSlot.code then some epoch else m.highest })
  let next : SlotRef := { position := nextPosition s.slotsInUse at_.position, sequence := at_.sequence + 1 }
  match s1.mount with
  | none => s1
  | some m =>
    if s.capacity ≤ m.scanned then scanStops next s1
    else s1.setMount (fun m => { m with scanCursor := some next })

/-- OK to a SLOT_READ of the scan (R111). -/
def scanReadOk (ws : List Word) (s : State) : State :=
  match s.mount with
  | none => s
  | some m =>
    match m.scanCursor, m.chosen with
    | some at_, some c =>
      if validAt ws c.journal at_.sequence then
        let g := ws.getD 4 0
        let undoOk := decide (g.toNat % 32 = 0) && !inJournalArea ((s.geometry.map (·.base)).getD 0) s.slotsInUse g
        match m.shape.accept (kindCode ws) (ws.getD 3 0) (ws.getD 5 0) undoOk with
        | some sh => scanAccepts at_ ws sh s
        | none =>
          structureError (some (ws.getD 3 0)) (ws.getD 2 0) (s.setMount (fun m => { m with scanned := m.scanned + 1 }))
      else scanStops at_ s
    | _, _ => s

/-! ### The replay of a recovery -/

/-- OK to a SLOT_READ of the replay (R114 step 1). -/
def mountReplayReadOk (ws : List Word) (s : State) : State :=
  match s.mount with
  | none => s
  | some m =>
    match m.cursor, m.openEpoch with
    | some c, some (e, _) =>
      if s.undoSlotOk ws ((m.chosen.map (·.journal)).getD 0) e c then
        s.setMount (fun m => { m with contents := some ws, step := some .waiting })
      else endMount .failed (addIncident (slotIncident .slotInvalid e c.sequence) s)
    | _, _ => s

/-- OK to a RESTORE_WRITE of the recovery (R114). -/
def mountRestoreOk (s : State) : State :=
  match s.mount with
  | none => s
  | some m =>
    match m.cursor with
    | none => s
    | some c =>
      let s1 := s.setMount (fun m => { m with restored := m.restored + 1 })
      if c.ordinal ≤ 1 then recoverAbandon s1
      else
        s1.setMount (fun m =>
          { m with cursor := some (c.back s.slotsInUse), contents := none, step := some .reading })

/-- OK to the recovery's ABANDON (R115). -/
def mountAbandonOk (s : State) : State :=
  match s.mount with
  | none => s
  | some m =>
    recoverAnchor (match m.abandonSlot with
      | some slot => acknowledge slot.sequence s
      | none => s)

/-- OK to one of the Mount Engine's operations other than its anchor reads and writes. -/
def mountOpOk (o : Op) (data : List Beat) (s : State) : State :=
  match s.mount with
  | none => s
  | some m =>
    match o.kind, m.phase with
    | .slotRead, .scanning => scanReadOk (wordsOfBeats data) s
    | .slotRead, _ => mountReplayReadOk (wordsOfBeats data) s
    | .restoreWrite, _ => mountRestoreOk s
    | _, _ => mountAbandonOk s

/-- The incident of a failed operation of the Mount Engine (R118); the scan's reads have none of their own. -/
def mountIncident (o : Op) (m : Mount) (s : State) : State :=
  let e := (m.openEpoch.map (·.1)).getD 0
  let q := (m.cursor.map (·.sequence)).getD 0
  match o.kind, m.phase with
  | .slotRead, .scanning => s
  | .slotRead, _ => addIncident (restoreIncident o.address e q) s
  | .restoreWrite, _ => addIncident (restoreIncident o.address e q) s
  | _, _ => addIncident (slotIncident .markerFailed e ((m.abandonSlot.map (·.sequence)).getD 0)) s

/-- A final failure of one of the Mount Engine's operations ends the mount FAILED (R118). -/
def mountOpFailed (o : Op) (s : State) : State :=
  match s.mount with
  | none => s
  | some m => endMount .failed (mountIncident o m s)

/-- An acknowledged anchor write of a mount (R109, R116, R117). -/
def mountAnchorOk (s : State) : State :=
  match s.mount with
  | none => s
  | some m =>
    match m.phase with
    | .writingB => raiseClaim (formatClaim .a 2#32) (s.setMount (fun m => { m with phase := .writingA }))
    | .writingA => completeMount .formatted 1#32 0#32 s
    | _ => s

/-- An acknowledged anchor write of a recovery: it completes with the numbers its claim carried (R116, R117). -/
def recoverAnchorOk (w : AnchorWrite) (s : State) : State :=
  match s.mount with
  | none => s
  | some m =>
    completeMount (if m.openEpoch.isSome then .mountedRolledBack else .mountedClean)
      ((w.numbers.map (·.1)).getD 0) ((w.numbers.map (·.2)).getD 0) s

/-! ### What the Mount Engine asks the D-port for -/

/-- The finding of a copy. -/
def Mount.finding (m : Mount) : Copy → Finding
  | .a => m.findingA
  | .b => m.findingB

/-- Whether the read of an anchor has still to be asked for (R107). -/
def State.wantsAnchor (s : State) (m : Mount) (c : Copy) : Bool :=
  decide (m.finding c = .absent) && !s.hasOp (.mountAnchor c)

/-- Asks for the tag of one anchor read (R107). -/
def requestAnchorRead (c : Copy) (s : State) : State :=
  request .anchorRead (.mountAnchor c) (s.slotAddress c.slot) 8 [] [] s

/-- The Mount Engine asks for its next tag, the restores apart: an anchor read, the read of the slot at a cursor, or the
ABANDON's write (R107, R111, R114, R115), subject to the hold (R119). -/
def mountIssue? (s : State) : Option State :=
  match s.mount with
  | none => none
  | some m =>
    if s.mayIssue .mount then
      match m.phase with
      | .readingAnchors =>
        if s.wantsAnchor m .a then some (requestAnchorRead .a s)
        else if s.wantsAnchor m .b then some (requestAnchorRead .b s)
        else none
      | .scanning =>
        match m.scanCursor with
        | some at_ => if s.hasOp .mount then none else some (requestSlotRead .mount at_.position s)
        | none => none
      | .replaying =>
        match m.step, m.cursor with
        | some .reading, some c => if s.hasOp .mount then none else some (requestSlotRead .mount c.position s)
        | _, _ => none
      | .abandoning =>
        match m.abandonSlot, m.openEpoch with
        | some slot, some (e, _) =>
          if s.hasOp .mount then none
          else
            some (requestSlotWrite .mount slot.position
              (markerSlot .abandon s.journalNumber slot.sequence e (countWord m.restored)) s)
        | _, _ => none
      | _ => none
    else none

/-- WAITING passes, and the recovery asks for the tag of its RESTORE_WRITE (R114 steps 2 and 3). The step becomes
RESTORING whatever the hold state; the request follows the hold (R119). -/
def mountRestoreIssue? (s : State) : Option State :=
  match s.mount with
  | none => none
  | some m =>
    match m.phase, m.step, m.contents with
    | .replaying, some .waiting, some ws =>
      if s.restoreClear (ws.getD 4 0) m.startPoint then
        let s1 := s.setMount (fun m => { m with step := some .restoring })
        if s.mayIssue .mount = true ∧ s.hasOp .mount = false then some (requestRestore .mount ws s1) else some s1
      else none
    | .replaying, some .restoring, some ws =>
      if s.mayIssue .mount = true ∧ s.hasOp .mount = false then some (requestRestore .mount ws s) else none
    | _, _, _ => none

end Sys2Proof.Machine
end

