-- ==== Sys2Proof/Machine/Dport.lean ====
section
/-! DEFINITION. What an operation's end does at its requester, and memory's answers: BUSY and exhaustion, late answers,
final failures, timeouts (R31 to R33, R39, R53 to R55, R69, R76, R77, R19, R107, R118, R147, R150 to R159). -/

namespace Sys2Proof.Machine

/-! ### Ends of data writes and reads -/

/-- A DATA_WRITE is answered OK (R31). -/
def entryOk (p : Nat) (s : State) : State :=
  match s.entryAt p with
  | none => s
  | some e =>
    answerWaited e .ok (dequeue p { s with inFlight := s.inFlight.filter (fun f => f.entry != some p) })

/-- A DATA_WRITE fails finally (R32). After a timeout its in-flight record stays and loses its entry (R33). -/
def entryFailed (timedOut : Bool) (p : Nat) (s : State) : State :=
  match s.entryAt p with
  | none => s
  | some e =>
    failMemory e
      { s with inFlight :=
          if timedOut then s.inFlight.map (fun f => if f.entry = some p then { f with entry := none } else f)
          else s.inFlight.filter (fun f => f.entry != some p) }

/-- The read-tracker entry of a place. -/
def State.readAt (s : State) (p : Nat) : Option ReadEntry := s.readTracker.find? (fun q => q.place == p)

/-- A beat of 0xFF bytes (R39, R127). -/
def onesBeat : Beat := 0xFFFFFFFFFFFFFFFF#64

/-- A read ends with its response and leaves the tracker (R39). -/
def readEnds (p : Nat) (st : Status) (data : List Beat) (s : State) : State :=
  match s.readAt p with
  | none => s
  | some q => respond q.tag st data { s with readTracker := s.readTracker.filter (fun r => r.place != p) }

/-- A DATA_READ fails finally: MEM_ERROR with every byte 0xFF (R39). -/
def readFailed (p : Nat) (s : State) : State :=
  match s.readAt p with
  | none => s
  | some q => readEnds p .memError (List.replicate q.beats onesBeat) s

/-! ### Ends of capture operations -/

/-- An UNDO_READ is answered OK (R53): the old bytes are kept and the capture goes on to WRITING. A capture marked FAULT
ends, and its entry is withdrawn (R58). -/
def undoReadOk (p : Nat) (data : List Beat) (s : State) : State :=
  match s.captureOf p, s.entryAt p with
  | some c, some e =>
    if c.mark = .fault then withdraw e (endCapture p s)
    else
      (s.setCapture p (fun c => { c with step := .writing, oldBytes := some data })).setEntry p
        (fun e => { e with stage := .undoWrite })
  | _, _ => s

/-- The SLOT_WRITE of an UNDO is answered OK (R54): the slot is durable, the capture ends, and its entry is READY, or is
withdrawn when the capture carries a mark (R57, R58). -/
def undoSlotAcked (p : Nat) (s : State) : State :=
  match s.captureOf p, s.entryAt p with
  | some c, some e =>
    let s1 := endCapture p (acknowledge c.sequence s)
    if c.mark = .none then s1.setEntry p (fun e => { e with stage := .ready }) else withdraw e s1
  | _, _ => s

/-- The incident of a failed capture (R55). -/
def undoIncident (e : WriteEntry) (c : Capture) : Incident :=
  { slotIncident .undoFailed (e.epoch.getD 0) c.sequence with address := some e.granule }

/-- A capture fails after allocation, whatever its mark (R55). -/
def captureFailed (p : Nat) (s : State) : State :=
  match s.captureOf p, s.entryAt p with
  | some c, some e => enterFaulted (addIncident (undoIncident e c) (failMemory e (endCapture p s)))
  | _, _ => s

/-! ### Ends of marker and anchor writes -/

/-- The OPEN write of an epoch ends. -/
def endOpenWrite (epoch sequence : Word) (s : State) : State :=
  { s with openWrites := s.openWrites.filter (fun w => !(w.epoch == epoch && w.slot.sequence == sequence)) }

/-- An OPEN's SLOT_WRITE is answered OK (R69). -/
def openOk (epoch sequence : Word) (s : State) : State := acknowledge sequence (endOpenWrite epoch sequence s)

/-- An OPEN's SLOT_WRITE fails finally (R69). -/
def openFailed (epoch sequence : Word) (s : State) : State :=
  enterFaulted (addIncident (slotIncident .markerFailed epoch sequence) (endOpenWrite epoch sequence s))

/-- The completion record of a commit at its commit point (R76). -/
def ClosingRecord.committed (c : ClosingRecord) : Completion := { c.failedCompletion with outcome := .committed }

/-- The closer's anchor claim (R76, R17). -/
def closerClaim (n : Nat) (slot : SlotRef) : Claim :=
  { claimant := .closer, tail := nextPosition n slot.position, tailSeq := slot.sequence + 1, numbers := none,
    target := none }

/-- The CLOSE is answered OK: the commit point (R76). -/
def closeOk (s : State) : State :=
  match s.closing with
  | none => s
  | some c =>
    match c.closeSlot with
    | none => s
    | some slot =>
      let s1 := acknowledge slot.sequence s
      let s2 := addCompletion c.committed
        { s1 with lastCommitted := some c.record.number, closing := some { c with stage := .reclaiming } }
      raiseClaim (closerClaim s.slotsInUse slot) s2

/-- The CLOSE fails finally (R76). -/
def closeFailed (s : State) : State :=
  match s.closing with
  | none => s
  | some c =>
    enterFaulted
      (addIncident (slotIncident .markerFailed c.record.number ((c.closeSlot.map (·.sequence)).getD 0)) s)

/-- An ANCHOR_FAILED incident: the claimed tail sequence (R19). -/
def anchorIncident (w : AnchorWrite) : Incident := { Incident.bare .anchorFailed with sequence := some w.tailSeq }

/-- The report of an acknowledged anchor write to its claimant (R19, R77, R96, R109, R116). -/
def anchorReport (w : AnchorWrite) (s : State) : State :=
  match w.claimant with
  | .closer => { s with closing := none }
  | .rollback => rollbackComplete s
  | .mount =>
    match s.mount with
    | none => s
    | some m =>
      match m.kind with
      | .format => mountAnchorOk s
      | .recover => recoverAnchorOk w s

/-- An anchor write is acknowledged (R19). -/
def anchorOk (w : AnchorWrite) (s : State) : State :=
  anchorReport w (endClaim w.claimant (s.setRing (Ring.anchored w)))

/-- An anchor write fails (R19, R118). -/
def anchorFailed (w : AnchorWrite) (s : State) : State :=
  let s1 := addIncident (anchorIncident w) (endClaim w.claimant s)
  match w.claimant with
  | .mount => endMount .failed s1
  | _ => enterFaulted s1

/-! ### Operations without a requester -/

/-- The OK of an operation without a requester (R159). -/
def orphanOk (work : Orphan) (s : State) : State :=
  match work with
  | .slot _ q => acknowledge q s
  | .anchor w => s.setRing (Ring.anchored w)
  | .restore _ _ _ => s
  | .slotRead => s

/-- The final failure of an operation without a requester (R159). -/
def orphanFailed (work : Orphan) (s : State) : State :=
  match work with
  | .slot e q => addIncident (slotIncident .markerFailed e q) s
  | .anchor w => addIncident (anchorIncident w) s
  | .restore g e q => addIncident (restoreIncident g e q) s
  | .slotRead => s

/-! ### Final results -/

/-- The OK of an operation reaches its requester. -/
def finalOk (o : Op) (data : List Beat) (s : State) : State :=
  match o.requester with
  | .entry p => entryOk p s
  | .read p => readEnds p .ok data s
  | .capture p =>
    match o.kind with
    | .undoRead => undoReadOk p data s
    | _ => undoSlotAcked p s
  | .openSlot e q => openOk e q s
  | .closer => closeOk s
  | .rollback => rollbackOpOk o data s
  | .mount => mountOpOk o data s
  | .mountAnchor c => anchorReadDone c (.read (wordsOfBeats data)) s
  | .anchor w => anchorOk w s
  | .orphan work => orphanOk work s

/-- A final failure reaches its requester, whatever its cause (R158). -/
def finalFail (o : Op) (timedOut : Bool) (s : State) : State :=
  match o.requester with
  | .entry p => entryFailed timedOut p s
  | .read p => readFailed p s
  | .capture p => captureFailed p s
  | .openSlot e q => openFailed e q s
  | .closer => closeFailed s
  | .rollback => rollbackOpFailed o s
  | .mount => mountOpFailed o s
  | .mountAnchor c => anchorReadDone c .failed s
  | .anchor w => anchorFailed w s
  | .orphan work => orphanFailed work s

/-! ### Memory's answers -/

/-- A record becomes HELD and keeps its tag (R151, R154). -/
def holdOp (o : Op) (t : DownTag) (persisting : Bool) (s : State) : State :=
  s.setOp o.ready (fun o' => { o' with phase := .held t, persisting := persisting })

/-- BUSY to an IN_FLIGHT record (R151, R154). The reissue follows in the same event where the hold allows it (R152). -/
def busyOp (o : Op) (t : DownTag) (s : State) : State :=
  if o.persisting = true ∨ o.retries < s.settings.retryLimit.toNat then holdOp o t o.persisting s
  else
    match s.settings.exhaustAction with
    | .fail => finalFail o false (s.dropOp o.ready)
    | .persist =>
      holdOp o t true (addIncident { Incident.bare .retryPersisting with address := some o.address } s)

/-- Whether the beats of an OK fit the operation (R147). -/
def Op.beatsFit (o : Op) (data : List Beat) : Bool := !o.kind.reads || decide (data.length = o.beats)

/-- An answer to the IN_FLIGHT record of a tag (R147, R157). -/
def answerOp (o : Op) (t : DownTag) (a : MemoryAnswer) (data : List Beat) (s : State) : State :=
  match a with
  | .ok =>
    if o.beatsFit data then finalOk o data (s.dropOp o.ready) else finalFail o false (s.dropOp o.ready)
  | .busy => busyOp o t s
  | .fail => finalFail o false (s.dropOp o.ready)

/-- A late answer (R156): the tag is FREE, and an in-flight record under it that lost its entry leaves the set. -/
def lateOp (t : DownTag) (s : State) : State :=
  { s with quarantined := s.quarantined.filter (fun q => q != t),
           inFlight := s.inFlight.filter (fun f => !(f.tag == t && f.entry.isNone)) }

/-- An answer record arrives (R147). None where it is discarded and nothing changes: its tag is FREE, or its record is
HELD. -/
def answer? (t : DownTag) (a : MemoryAnswer) (data : List Beat) (s : State) : Option State :=
  if s.quarantined.contains t then some (lateOp t s)
  else
    match s.flyingAt t with
    | none => none
    | some o => some (answerOp o t a data s)

/-- A final answer as an answer record carries it. -/
def answerOf : FinalAnswer → MemoryAnswer
  | .ok => .ok
  | .fail => .fail

/-- The timer of an IN_FLIGHT record expires (R155). None where no record under the tag is IN_FLIGHT. -/
def timeout? (t : DownTag) (s : State) : Option State :=
  match s.flyingAt t with
  | none => none
  | some o =>
    let s1 := s.dropOp o.ready
    some (finalFail o true
      (addIncident { Incident.bare .dsTimeout with address := some o.address }
        { s1 with quarantined := s1.quarantined ++ [t] }))

end Sys2Proof.Machine
end

