-- ==== Sys2Proof/Machine/Reset.lean ====
section
/-! DEFINITION. Resets and the Hold Controller's transitions (R22, R43, R62, R84, R101, R104, R148, R149, R171 to R178,
R189 to R192). -/

namespace Sys2Proof.Machine

/-! ### The hold state -/

/-- The hold state that PFW gives at a reset, and the mode in force (R178). -/
def holdFromPfw (s : State) : State :=
  if s.pfw then { s with hold := .holding, modeInForce := s.settings.holdMode } else { s with hold := .run }

/-- Whether an OPEN slot write has an operation record (R174). -/
def State.openOpRecorded (s : State) : Bool :=
  s.ops.any (fun o =>
    match o.requester with
    | .openSlot _ _ => true
    | _ => false)

/-- The quiet condition (R174). -/
def State.quiet (s : State) : Bool :=
  !s.ops.any (·.flying) &&
    match s.modeInForce with
    | .freeze => true
    | .drain => s.writeQueue.isEmpty && !s.openOpRecorded && s.closing.isNone

/-- The quiet condition is true while HOLDING: the hold state becomes SAFE, and SAFE is latched (R175). -/
def enterSafe? (s : State) : Option State :=
  if s.hold = .holding ∧ s.quiet = true then some (latch .safe { s with hold := .safe }) else none

/-- Assertion of PFW (R172). The tag requests that the hold forbids are cancelled (R41, R60, R69, R78, R99, R119). -/
def pfwAsserted (s : State) : State :=
  let s1 := { s with pfw := true }
  if s.hold = .run ∧ s.rstHeld = false then
    let s2 := { s1 with hold := .holding, modeInForce := s.settings.holdMode }
    s2.cancelWaiting (fun o => !s2.mayIssue o.requester)
  else s1

/-- Release of PFW (R177). -/
def pfwReleased (s : State) : State := { s with pfw := false, hold := .run }

/-! ### What every reset clears -/

/-- The state that no reset of any kind keeps: every block's queues, records and findings (R22, R43, R62, R84, R101,
R104, R148, R171). -/
def clearBlocks (s : State) : State :=
  { s with
    writeQueue := [], readTracker := [], filter := [], captureOrder := [], captures := [], geometry := none,
    ring := none, spaceWaiter := none, claims := [], openWrites := [], controller := .unmounted, active := none,
    closing := none, nextEpoch := none, lastCommitted := none, autoTimer := none, mountRequest := none,
    rollback := none, mount := none, ops := [], latched := 0#6, incidents := [], drops := 0, completions := [],
    pendingAuto := false, drain := none }

/-! ### RESET_PART -/

/-- The tags of the IN_FLIGHT records, which a RESET_PART quarantines (R149). -/
def State.flyingTags (s : State) : List DownTag :=
  (s.ops.filter (·.flying)).filterMap (fun o => o.phase.tag?)

/-- The in-flight set after a RESET_PART (R43): the records of timed-out writes, and those whose DATA_WRITE is
IN_FLIGHT, both without an entry. -/
def State.keptInFlight (s : State) : List InFlight :=
  (s.inFlight.filter (fun f => f.entry.isNone || s.flyingTags.contains f.tag)).map (fun f => { f with entry := none })

/-- The event of a RESET_PART, soft at the end of its drain or forced (R191). The pending response is the DONE of the
request, with its sequence. -/
def resetPart (sequence : Byte) (s : State) : State :=
  holdFromPfw
    { clearBlocks s with
      inFlight := s.keptInFlight,
      quarantined := s.quarantined ++ s.flyingTags,
      response := some (buildFrame Response.done.code sequence []) }

/-- The drain finds the Write Queue and the Read Tracker empty, and the soft reset takes place (R190, R191). -/
def softReset? (s : State) : Option State :=
  match s.drain with
  | none => none
  | some sequence =>
    if s.writeQueue.isEmpty = true ∧ s.readTracker.isEmpty = true then some (resetPart sequence s) else none

/-! ### RST# -/

/-- Assertion of RST#, or power-up (R22, R43, R121, R148, R149, R171, R192). DESIGN CHOICE: while RST# is held the hold
state is RUN and the mode in force is kept (log entry 29), and the settings keep their values until the release (log
entry 30); the manual gives these only at the release (R178, R192). -/
def rstAsserted (s : State) : State :=
  { clearBlocks s with
    rstHeld := true, inFlight := [], quarantined := [], regions := List.replicate 16 none, hold := .run,
    response := none, transaction := none }

/-- A transaction as it stands at its beginning (R179). -/
def openTransaction (frame : List Word) : Transaction := { frame := frame, received := [], shifted := 0 }

/-- One MCK cycle of a transaction (R179): a bit is taken from MDI, and while the frame has bits left one of them is
shifted out. -/
def Transaction.cycle (t : Transaction) (bit : Bool) : Transaction :=
  { t with
    received := t.received ++ [bit], shifted := if t.shifted < 32 * t.frame.length then t.shifted + 1 else t.shifted }

/-- Release of RST# (R102, R103, R178, R192). Nothing happens where RST# is not held. DESIGN CHOICE (log entry 32): with
MCS# asserted a transaction begins here, also where MCS# was asserted before RST# was; R192 says of that request both
that it is not taken and that it is judged as begun at the release. -/
def rstReleased (st : Straps) (s : State) : State :=
  if s.rstHeld then
    let s1 := holdFromPfw
      { s with rstHeld := false, settings := defaultSettings st, modeInForce := .drain,
               transaction := if s.mcs then some (openTransaction emptyFrame) else none }
    if st.autoRecover = true ∧ st.jsize ≠ 0 then startMount .recover .auto 0 s1 else s1
  else s

end Sys2Proof.Machine
end

