-- ==== Sys2Proof/Machine/Settle.lean ====
section
/-! DEFINITION. The steps that the part takes by itself, and an event carried to its end: the manual's "in the same
event" (R30, R73, R85, R145, R152, R174, R177 and the tests they name). -/

namespace Sys2Proof.Machine

/-- A freed tag is granted to the WAITING record of the lowest class and earliest ready order (R145). -/
def tagGrant? (s : State) : Option State :=
  match bestOp (s.ops.filter (fun o => o.isWaiting && s.mayIssue o.requester)), s.freeTag with
  | some o, some t => some (grant o t s)
  | _, _ => none

/-- A HELD record is reissued with its own tag (R152, R153). -/
def reissueOp (o : Op) (t : DownTag) (s : State) : State := sendOp o t (o.retries + 1) s

/-- The HELD record of a tag is reissued where its requester's hold rules allow it (R152). -/
def reissueAt? (t : DownTag) (s : State) : Option State :=
  match s.ops.find? (fun o => o.phase == .held t) with
  | none => none
  | some o => if s.mayIssue o.requester then some (reissueOp o t s) else none

/-- The first HELD record that may be reissued is (R152). -/
def reissue? (s : State) : Option State :=
  match s.ops.find? (fun o => o.isHeld && s.mayIssue o.requester) with
  | none => none
  | some o =>
    match o.phase with
    | .held t => some (reissueOp o t s)
    | _ => none

/-- The steps that the part takes by itself, in the order in which they are tried. DESIGN CHOICE (log entry 4): the
manual orders few of them against one another. -/
def internalSteps : List (State → Option State) :=
  [ tagGrant?, reissue?, spaceGranted?, captureStart?, closerCapturingDone?, rollbackSettled?, pendingAutoCommit?,
    mountFromFaulted?, openWriteIssue?, captureIssue?, closeWriteIssue?, anchorClaimIssue?, rollbackIssue?,
    rollbackRestoreIssue?, mountIssue?, mountRestoreIssue?, dataWriteIssue?, dataReadIssue?, softReset?, enterSafe? ]

/-- The first step of a list that can be taken. -/
def firstStep : List (State → Option State) → State → Option State
  | [], _ => none
  | f :: rest, s =>
    match f s with
    | some s' => some s'
    | none => firstStep rest s

/-- Takes up to `n` of the part's own steps. -/
def settleFor : Nat → State → State
  | 0, s => s
  | n + 1, s =>
    match firstStep internalSteps s with
    | none => s
    | some s' => settleFor n s'

/-- An event carried to its end: every step that its effect enables follows in the same event. -/
def settle (s : State) : State := settleFor Config.settleFuel s

/-- A step of the part by itself, where it can be taken, with what follows in its event; else nothing changes. -/
def internalStep (f : State → Option State) (s : State) : State :=
  match f s with
  | some s' => settle s'
  | none => s

end Sys2Proof.Machine
end

