-- ==== Sys2Proof/Machine/Bus.lean ====
section
/-! DEFINITION. The U-port: admission of upstream WRITE and READ requests (R125 to R131, R138 to R142, R70). -/

namespace Sys2Proof.Machine

/-- What admission decides about a request. -/
inductive Verdict where
  /-- Answered at once with this status; no block changes. -/
  | answer (st : Status)
  /-- A HOLE request: answered OK at once, a read with beats of 0xFF (R127). -/
  | hole
  /-- Answered PROTECTED, with an incident of this kind (R125, R129). -/
  | prot (kind : IncidentKind)
  /-- A write accepted with this class and ack mode. -/
  | write (cls : EntryClass) (ack : AckMode)
  /-- A write accepted after an auto-open (R70). -/
  | autoOpen (ack : AckMode)
  /-- A read accepted. -/
  | read
  deriving DecidableEq, Repr

/-- Whether a new request finds the part holding or draining (R140 and R141, check 2). -/
def State.turnsAway (s : State) : Bool := decide (s.hold ≠ .run) || s.drain.isSome

/-- Checks 9 and 10 of R140. -/
def State.queueTest (s : State) (cls : EntryClass) (ack : AckMode) : Verdict :=
  if s.writeQueue.length < Config.wqCapacity then .write cls ack else .answer .retry

/-- The auto-open of check 8 of R140 (R70): the queue test comes before the space test. -/
def State.autoOpenTest (s : State) (ack : AckMode) : Verdict :=
  if s.writeQueue.length < Config.wqCapacity then
    if s.hasSpace 2 then .autoOpen ack else .answer .journalFull
  else .answer .retry

/-- Check 8 of R140: a write of a JOURNALED range from a writer that is not exempt. -/
def State.journaledTest (s : State) (ack : AckMode) : Verdict :=
  match s.controller with
  | .unmounted => .answer .noJournal
  | .faulted => .answer .noJournal
  | .active => s.queueTest .journaled ack
  | .idle =>
    match s.settings.noEpochWrite with
    | .pass => s.queueTest .exempt ack
    | .refuse => .answer .noJournal
    | .autoOpen => s.autoOpenTest ack
  | .mounting => .answer .retry
  | .rollingBack => .answer .retry

/-- Whether the controller refuses JOURNALED traffic with RETRY (R128). -/
def State.retriesJournaled (s : State) : Bool :=
  decide (s.controller = .mounting) || decide (s.controller = .rollingBack)

/-- Checks 4 to 10 of R140, on the classification result (R124). -/
def State.classifiedWrite (s : State) (c : Classification) (i : Initiator) : Verdict :=
  match c.cls with
  | .hole => .hole
  | .plain => if names c.writeMask i then s.queueTest .plain c.ack else .prot .writeProtected
  | .journaled =>
    if names c.writeMask i then
      if s.retriesJournaled then .answer .retry
      else if names c.exemptMask i then s.queueTest .exempt c.ack
      else s.journaledTest c.ack
    else .prot .writeProtected

/-- Admission of a WRITE (R140). -/
def State.admitWrite (s : State) (r : WriteRequest) : Verdict :=
  if s.writeMalformed r then .answer .malformed
  else if s.turnsAway then .answer .retry
  else if s.protects r.address then .prot .journalAreaAccess
  else s.classifiedWrite (s.classify r.address) r.initiator

/-- Admission of a READ (R141). -/
def State.admitRead (s : State) (r : ReadRequest) : Verdict :=
  if s.readMalformed r then .answer .malformed
  else if s.turnsAway then .answer .retry
  else if s.protects r.address then .prot .journalAreaAccess
  else
    match (s.classify r.address).cls with
    | .hole => .hole
    | cls =>
      if cls = .journaled ∧ s.retriesJournaled = true then .answer .retry
      else if s.readTracker.length < Config.rtCapacity then .read
      else .answer .retry

/-- The incident of a request answered PROTECTED (R125, R129). -/
def protectedIncident (k : IncidentKind) (address : Word) (i : Initiator) (t : UpTag) : Incident :=
  { Incident.bare k with address := some address, initiator := some i, tag := some t }

/-- A request answered PROTECTED with its incident. -/
def refuseProtected (k : IncidentKind) (address : Word) (i : Initiator) (t : UpTag) (s : State) : State :=
  addIncident (protectedIncident k address i t) (respond t .protect [] s)

/-- A WRITE in its arrival event, before what follows in the event. The flag says whether the request was accepted. -/
def takeWrite (r : WriteRequest) (s : State) : State × Bool :=
  match s.admitWrite r with
  | .answer st => (respond r.tag st [] s, false)
  | .hole => (respond r.tag .ok [] s, false)
  | .prot k => (refuseProtected k r.address r.initiator r.tag s, false)
  | .write cls ack => (acceptWrite r cls ack s, true)
  | .autoOpen ack => (acceptWrite r .journaled ack (openEpoch .auto s), true)
  | .read => (s, false)

/-- A READ in its arrival event, before what follows in the event. The flag says whether the request was accepted. -/
def takeRead (r : ReadRequest) (s : State) : State × Bool :=
  match s.admitRead r with
  | .answer st => (respond r.tag st [] s, false)
  | .hole => (respond r.tag .ok (List.replicate r.beats onesBeat) s, false)
  | .prot k => (refuseProtected k r.address r.initiator r.tag s, false)
  | .read => (acceptRead r s, true)
  | _ => (s, false)

/-- An arrival carried to its end: what an accepted request enables follows in the same event. -/
def arrival (p : State × Bool) : State := if p.2 then settle p.1 else p.1

/-- WRITE_REQUEST (R140). While RST# is held no request is taken (R148). -/
def execWriteRequest (r : WriteRequest) (s : State) : Host.Outcome State Fault Refusal :=
  .next (if s.rstHeld then s else arrival (takeWrite r s))

/-- READ_REQUEST (R141). While RST# is held no request is taken (R148). -/
def execReadRequest (r : ReadRequest) (s : State) : Host.Outcome State Fault Refusal :=
  .next (if s.rstHeld then s else arrival (takeRead r s))

end Sys2Proof.Machine
end

