-- ==== Sys2Proof/Machine/Events.lean ====
section
/-! DEFINITION. The commands that are pins, timers, memory's answers, and the part's own steps. -/

namespace Sys2Proof.Machine

/-- An event whose effect may be absent: with it, what follows in the event; without it, nothing changes. -/
def eventOf (effect : Option State) (s : State) : Host.Outcome State Fault Refusal :=
  .next (match effect with
    | some s' => settle s'
    | none => s)

/-- A step of the part by itself. -/
def ownStep (f : State → Option State) (s : State) : Host.Outcome State Fault Refusal := .next (internalStep f s)

/-- Memory's final answer to the operation of a tag. The tag alone says which operation it answers (R147). -/
def finalAnswer (t : DownTag) (a : FinalAnswer) (data : List Beat) (s : State) : Host.Outcome State Fault Refusal :=
  eventOf (answer? t (answerOf a) data s) s

/-! ### Pins -/

/-- Assertion of PFW (R172). -/
def execPfwAssert (s : State) : Host.Outcome State Fault Refusal := .next (settle (pfwAsserted s))

/-- Release of PFW (R177). -/
def execPfwRelease (s : State) : Host.Outcome State Fault Refusal := .next (settle (pfwReleased s))

/-- The hold state becomes SAFE (R175). -/
def execEnterSafe (s : State) : Host.Outcome State Fault Refusal := ownStep enterSafe? s

/-- Assertion of RST#, or power-up (R149). -/
def execRstAssert (s : State) : Host.Outcome State Fault Refusal := .next (rstAsserted s)

/-- Release of RST# (R102). -/
def execRstRelease (st : Straps) (s : State) : Host.Outcome State Fault Refusal := .next (settle (rstReleased st s))

/-- The soft reset takes place (R191). -/
def execSoftResetTakesPlace (s : State) : Host.Outcome State Fault Refusal := ownStep softReset? s

/-! ### Timers -/

/-- The wait timer of the space waiter expires (R13). -/
def execSpaceWaitExpiry (s : State) : Host.Outcome State Fault Refusal := eventOf (spaceWaitExpires? s) s

/-- The auto-commit timer expires (R80). -/
def execAutoCommitExpiry (s : State) : Host.Outcome State Fault Refusal := eventOf (autoCommitExpires? s) s

/-- The timer of an IN_FLIGHT operation expires (R155). -/
def execDsTimeout (t : DownTag) (s : State) : Host.Outcome State Fault Refusal := eventOf (timeout? t s) s

/-! ### Memory's answers -/

/-- BUSY for a tag (R151). -/
def execBusyAnswer (t : DownTag) (s : State) : Host.Outcome State Fault Refusal := eventOf (answer? t .busy [] s) s

/-- An answer for a QUARANTINED tag (R156). -/
def execLateAnswer (t : DownTag) (a : MemoryAnswer) (s : State) : Host.Outcome State Fault Refusal :=
  eventOf (answer? t a [] s) s

/-- The final answer to a DATA_WRITE (R31, R32). -/
def execDataWriteAnswer (t : DownTag) (a : FinalAnswer) (s : State) : Host.Outcome State Fault Refusal :=
  finalAnswer t a [] s

/-- The final answer to a DATA_READ (R39). -/
def execDataReadAnswer (t : DownTag) (a : FinalAnswer) (data : List Beat) (s : State) :
    Host.Outcome State Fault Refusal := finalAnswer t a data s

/-- The final answer to an UNDO_READ (R53). -/
def execUndoReadAnswer (t : DownTag) (a : FinalAnswer) (data : List Beat) (s : State) :
    Host.Outcome State Fault Refusal := finalAnswer t a data s

/-- The final answer to the SLOT_WRITE of an UNDO (R54). -/
def execUndoSlotWriteAnswer (t : DownTag) (a : FinalAnswer) (s : State) : Host.Outcome State Fault Refusal :=
  finalAnswer t a [] s

/-- The final answer to the SLOT_WRITE of an OPEN (R69). -/
def execOpenSlotWriteAnswer (t : DownTag) (a : FinalAnswer) (s : State) : Host.Outcome State Fault Refusal :=
  finalAnswer t a [] s

/-- The final answer to the SLOT_WRITE of a CLOSE (R76). -/
def execCloseSlotWriteAnswer (t : DownTag) (a : FinalAnswer) (s : State) : Host.Outcome State Fault Refusal :=
  finalAnswer t a [] s

/-- The final answer to an ANCHOR_WRITE of the closer, of a rollback or of a recovery (R19). -/
def execAnchorWriteAnswer (t : DownTag) (a : FinalAnswer) (s : State) : Host.Outcome State Fault Refusal :=
  finalAnswer t a [] s

/-- The final answer to a SLOT_READ of a rollback (R91, R92). -/
def execRollbackSlotReadAnswer (t : DownTag) (a : FinalAnswer) (data : List Beat) (s : State) :
    Host.Outcome State Fault Refusal := finalAnswer t a data s

/-- The final answer to a RESTORE_WRITE of a rollback (R93). -/
def execRollbackRestoreAnswer (t : DownTag) (a : FinalAnswer) (s : State) : Host.Outcome State Fault Refusal :=
  finalAnswer t a [] s

/-- The final answer to the SLOT_WRITE of a rollback's ABANDON (R95). -/
def execRollbackAbandonAnswer (t : DownTag) (a : FinalAnswer) (s : State) : Host.Outcome State Fault Refusal :=
  finalAnswer t a [] s

/-- The final answer to an ANCHOR_READ (R107). -/
def execAnchorReadAnswer (t : DownTag) (a : FinalAnswer) (data : List Beat) (s : State) :
    Host.Outcome State Fault Refusal := finalAnswer t a data s

/-- The final answer to an ANCHOR_WRITE of FORMAT (R109). -/
def execFormatAnchorWriteAnswer (t : DownTag) (a : FinalAnswer) (s : State) : Host.Outcome State Fault Refusal :=
  finalAnswer t a [] s

/-- The final answer to a SLOT_READ of the scan (R111). -/
def execScanSlotReadAnswer (t : DownTag) (a : FinalAnswer) (data : List Beat) (s : State) :
    Host.Outcome State Fault Refusal := finalAnswer t a data s

/-- The final answer to a SLOT_READ of a recovery's replay (R114). -/
def execMountReplayReadAnswer (t : DownTag) (a : FinalAnswer) (data : List Beat) (s : State) :
    Host.Outcome State Fault Refusal := finalAnswer t a data s

/-- The final answer to a RESTORE_WRITE of a recovery (R114). -/
def execMountRestoreAnswer (t : DownTag) (a : FinalAnswer) (s : State) : Host.Outcome State Fault Refusal :=
  finalAnswer t a [] s

/-- The final answer to the SLOT_WRITE of a recovery's ABANDON (R115). -/
def execMountAbandonAnswer (t : DownTag) (a : FinalAnswer) (s : State) : Host.Outcome State Fault Refusal :=
  finalAnswer t a [] s

/-- The final answer to an operation without a requester (R159). -/
def execOrphanOperationAnswer (t : DownTag) (a : FinalAnswer) (data : List Beat) (s : State) :
    Host.Outcome State Fault Refusal := finalAnswer t a data s

/-! ### The part's own steps -/

/-- The HELD operation of a tag is reissued (R152). -/
def execReissue (t : DownTag) (s : State) : Host.Outcome State Fault Refusal := ownStep (reissueAt? t) s

/-- A freed tag is granted (R145). -/
def execTagGrant (s : State) : Host.Outcome State Fault Refusal := ownStep tagGrant? s

/-- The entry at the issue pointer asks for a tag (R27). -/
def execDataWriteIssue (s : State) : Host.Outcome State Fault Refusal := ownStep dataWriteIssue? s

/-- A read asks for a tag (R38). -/
def execDataReadIssue (s : State) : Host.Outcome State Fault Refusal := ownStep dataReadIssue? s

/-- The head of the capture order starts (R51). -/
def execCaptureStart (s : State) : Host.Outcome State Fault Refusal := ownStep captureStart? s

/-- The space waiter is granted its slot (R13). -/
def execSpaceGranted (s : State) : Host.Outcome State Fault Refusal := ownStep spaceGranted? s

/-- The closer leaves CAPTURING (R74). -/
def execCloserCapturingDone (s : State) : Host.Outcome State Fault Refusal := ownStep closerCapturingDone? s

/-- The closer asks for the tag of its CLOSE write (R75). -/
def execCloseWriteIssue (s : State) : Host.Outcome State Fault Refusal := ownStep closeWriteIssue? s

/-- A waiting anchor claim is issued (R17). -/
def execAnchorClaimIssue (s : State) : Host.Outcome State Fault Refusal := ownStep anchorClaimIssue? s

/-- The pending auto-commit is taken (R80). -/
def execPendingAutoCommitTaken (s : State) : Host.Outcome State Fault Refusal := ownStep pendingAutoCommit? s

/-- The rollback leaves SETTLING (R90). -/
def execRollbackSettled (s : State) : Host.Outcome State Fault Refusal := ownStep rollbackSettled? s

/-- The rollback's restore is issued (R93). -/
def execRollbackRestoreIssue (s : State) : Host.Outcome State Fault Refusal := ownStep rollbackRestoreIssue? s

/-- The recovery's restore is issued (R114). -/
def execMountRestoreIssue (s : State) : Host.Outcome State Fault Refusal := ownStep mountRestoreIssue? s

/-- A mount request waiting in FAULTED starts (R83). -/
def execMountFromFaulted (s : State) : Host.Outcome State Fault Refusal := ownStep mountFromFaulted? s

end Sys2Proof.Machine
end

