-- ==== Sys2Proof/Machine/Link.lean ====
section
/-! DEFINITION. The M-link: transactions, dispatch, and the requests each owning block carries out (R67, R71, R72, R86,
R105, R132, R133, R165, R168, R170, R179 to R192). -/

namespace Sys2Proof.Machine

/-- What the owner of a request returns (R184): the response code, the result words, the state after, and whether the
state has changed so that other blocks test again in the same event. -/
structure Reply where
  code : Response
  words : List Word
  state : State
  acts : Bool
  deriving DecidableEq, Repr

/-- DONE, no block but the owner concerned. -/
def doneReply (words : List Word) (s : State) : Reply := { code := .done, words := words, state := s, acts := false }

/-- An answer that changes no state (R183). -/
def refusal (code : Response) (words : List Word) (s : State) : Reply :=
  { code := code, words := words, state := s, acts := false }

/-- REFUSED with its reason (R183). -/
def refusedReply (r : Reason) (s : State) : Reply := refusal .refused [r.code] s

/-- BUSY (R183). -/
def busyReply (s : State) : Reply := refusal .busy [] s

/-- BAD_ARGUMENT (R183). -/
def badReply (s : State) : Reply := refusal .badArgument [] s

/-- DONE or STARTED by an owner whose work goes on in the event. -/
def actReply (code : Response) (words : List Word) (s : State) : Reply :=
  { code := code, words := words, state := s, acts := true }

/-! ### The M-link's own requests -/

/-- NOP (R185). -/
def nopReply (s : State) : Reply := doneReply [] s

/-- READ_STATUS (R185). -/
def statusReply (s : State) : Reply := doneReply s.statusWords s

/-- SET_PARAM (R187). -/
def setParamReply (args : List Word) (s : State) : Reply :=
  let id := (args.getD 0 0).toNat
  let v := args.getD 1 0
  match s.settings.put id v with
  | none => badReply s
  | some t =>
    if (id = 1 ∨ id = 2) ∧ s.controller ≠ .unmounted then refusedReply .wrongState s
    else doneReply [(t.get id).getD 0] { s with settings := t }

/-- GET_PARAM (R188). -/
def getParamReply (args : List Word) (s : State) : Reply :=
  match s.settings.get (args.getD 0 0).toNat with
  | none => badReply s
  | some v => doneReply [v] s

/-- Whether a soft RESET_PART is answered BUSY (R189). -/
def State.softBusy (s : State) : Bool :=
  decide (s.controller = .mounting) || decide (s.controller = .rollingBack) || s.closing.isSome || s.drain.isSome

/-- A soft RESET_PART (R189): the drain begins, and a mount request waiting in FAULTED is discarded. -/
def softResetReply (sequence : Byte) (s : State) : Reply :=
  if s.softBusy then busyReply s
  else actReply .started [] { s with drain := some sequence, mountRequest := none }

/-- A forced RESET_PART (R189, R191). -/
def forcedResetReply (sequence : Byte) (s : State) : Reply := actReply .done [] (resetPart sequence s)

/-- RESET_PART: 0 for soft, 1 for force (R189). -/
def resetPartReply (sequence : Byte) (args : List Word) (s : State) : Reply :=
  match (args.getD 0 0).toNat with
  | 0 => softResetReply sequence s
  | 1 => forcedResetReply sequence s
  | _ => badReply s

/-! ### The Epoch Controller's and the Mount Engine's requests -/

/-- Whether the ACTIVE epoch's OPEN is deferred, as a result word (R67). -/
def deferredWord (r : Option EpochRecord) : Word :=
  match r with
  | some a => if a.openSlot.isSome then 0 else 1
  | none => 0

/-- BEGIN_EPOCH (R67, R68). -/
def beginReply (s : State) : Reply :=
  if s.controller = .unmounted ∨ s.controller = .mounting then refusedReply .notMounted s
  else if s.controller = .faulted ∨ s.controller = .rollingBack then refusedReply .wrongState s
  else if s.controller = .active then refusedReply .epochOpen s
  else if s.drain.isSome then refusedReply .wrongState s
  else if s.hold ≠ .run then refusedReply .holding s
  else if s.hasSpace 2 = false then refusedReply .journalFull s
  else
    let s1 := openEpoch .host s
    actReply .done [(s1.active.map (·.number)).getD 0, deferredWord s1.active] s1

/-- The four words of an accepted COMMIT_EPOCH, taken from the closing record (R72). -/
def commitWords (c : Option ClosingRecord) : List Word :=
  match c with
  | some c =>
    [c.record.number, countWord c.record.undoCount, countWord c.record.filterless, countWord c.record.failed]
  | none => [0, 0, 0, 0]

/-- COMMIT_EPOCH (R71, R72). -/
def commitReply (s : State) : Reply :=
  if s.controller = .unmounted ∨ s.controller = .mounting then refusedReply .notMounted s
  else if s.controller = .faulted then refusedReply .wrongState s
  else if s.drain.isSome then refusedReply .wrongState s
  else if s.frozen then refusedReply .holding s
  else if s.closing.isSome then busyReply s
  else if s.controller = .idle then refusedReply .noEpoch s
  else if s.controller = .rollingBack then refusedReply .wrongState s
  else
    let s1 := acceptCommit .host s
    actReply .started (commitWords s1.closing) s1

/-- The three words of an accepted ABORT_EPOCH, taken from the ACTIVE record (R86). -/
def abortWords (a : Option EpochRecord) : List Word :=
  match a with
  | some r => [r.number, countWord r.undoCount, deferredWord a]
  | none => [0, 0, 0]

/-- ABORT_EPOCH (R86 to R88). -/
def abortReply (s : State) : Reply :=
  if s.controller = .unmounted ∨ s.controller = .mounting then refusedReply .notMounted s
  else if s.controller = .faulted then refusedReply .wrongState s
  else if s.drain.isSome then refusedReply .wrongState s
  else if s.hold ≠ .run then refusedReply .holding s
  else if s.controller = .rollingBack then busyReply s
  else if s.controller = .idle then refusedReply .noEpoch s
  else actReply .started (abortWords s.active) (acceptAbort s)

/-- FORMAT_JOURNAL and RECOVER_JOURNAL (R105, R83). -/
def mountReply (kind : MountKind) (seed : Word) (s : State) : Reply :=
  if s.controller = .mounting ∨ (s.controller = .faulted ∧ s.mountRequest.isSome = true) then busyReply s
  else if s.controller = .idle ∨ s.controller = .active ∨ s.controller = .rollingBack then
    refusedReply .wrongState s
  else if s.drain.isSome then refusedReply .wrongState s
  else if s.hold ≠ .run then refusedReply .holding s
  else if geometryValid s.settings.journalBase s.settings.journalSlots.toNat = false then refusedReply .geometry s
  else if s.controller = .unmounted then actReply .started [] (startMount kind .host seed s)
  else actReply .started [] { s with mountRequest := some { kind := kind, seed := seed } }

/-! ### The Region Table's and the Alert Unit's requests -/

/-- WRITE_REGION (R132): with one argument the entry is cleared, with six it is replaced. -/
def writeRegionReply (args : List Word) (s : State) : Reply :=
  let index := (args.getD 0 0).toNat
  if 15 < index then badReply s
  else
    match args with
    | [_] => doneReply [] { s with regions := s.regions.set index none }
    | [_, base, exponent, cls, ack, masks] =>
      match regionOfArgs base exponent cls ack masks with
      | none => badReply s
      | some r => doneReply [] { s with regions := s.regions.set index (some r) }
    | _ => badReply s

/-- READ_REGION (R133). -/
def readRegionReply (args : List Word) (s : State) : Reply :=
  let index := (args.getD 0 0).toNat
  if 15 < index then badReply s else doneReply (regionWords (s.regions.getD index none)) s

/-- READ_ALERTS (R165). -/
def readAlertsReply (s : State) : Reply := doneReply [alertWord s.latched, alertWord s.settings.alertMask] s

/-- CLEAR_ALERTS (R165). -/
def clearAlertsReply (args : List Word) (s : State) : Reply :=
  let w := args.getD 0 0
  if alertWordOk w then
    let left := s.latched &&& ~~~alertsOfWord w
    doneReply [alertWord left] { s with latched := left }
  else badReply s

/-- POP_INCIDENT (R168). -/
def popIncidentReply (s : State) : Reply :=
  match s.incidents with
  | [] => doneReply [0, 0, 0, 0, 0, 0] s
  | i :: rest => doneReply (incidentWords i s.drops rest.length) { s with incidents := rest, drops := 0 }

/-- POP_COMPLETION (R170). -/
def popCompletionReply (s : State) : Reply :=
  match s.completions with
  | [] => doneReply [0, 0, 0, 0, 0] s
  | c :: rest => doneReply (completionWords c rest.length) { s with completions := rest }

/-! ### Dispatch -/

/-- The owning block's answer to a command (R181). -/
def LinkCommand.reply (c : LinkCommand) (sequence : Byte) (args : List Word) (s : State) : Reply :=
  match c with
  | .nop => nopReply s
  | .readStatus => statusReply s
  | .beginEpoch => beginReply s
  | .commitEpoch => commitReply s
  | .abortEpoch => abortReply s
  | .formatJournal => mountReply .format (args.getD 0 0) s
  | .recoverJournal => mountReply .recover 0 s
  | .setParam => setParamReply args s
  | .getParam => getParamReply args s
  | .writeRegion => writeRegionReply args s
  | .readRegion => readRegionReply args s
  | .readAlerts => readAlertsReply s
  | .clearAlerts => clearAlertsReply args s
  | .popIncident => popIncidentReply s
  | .popCompletion => popCompletionReply s
  | .resetPart => resetPartReply sequence args s

/-- Tests 2 and 3 of R184: the argument count, then the owning block. -/
def counted (c : LinkCommand) (r : LinkRequest) (s : State) : Reply :=
  if c.takes r.args.length then c.reply r.sequence r.args s else badReply s

/-- The dispatch of a request frame (R184). -/
def dispatch (code : Byte) (r : LinkRequest) (s : State) : Reply :=
  match linkCommand code with
  | none => refusal .unknownCommand [] s
  | some c => counted c r s

/-- The release of MCS# with what it makes of the state (R180): the transaction ends, and the response becomes pending.
While RST# is held no request is taken (R192). -/
def takeReply (sequence : Byte) (reply : State → Reply) (s : State) : State :=
  if s.rstHeld then { s with mcs := false, transaction := none }
  else
    let r := reply s
    let s1 := { r.state with
      mcs := false, transaction := none, response := some (buildFrame r.code.code sequence r.words) }
    if r.acts then settle s1 else s1

/-- A command of the link as a step. -/
def linkStep (c : LinkCommand) (r : LinkRequest) (s : State) : Host.Outcome State Fault Refusal :=
  .next (takeReply r.sequence (counted c r) s)

/-- NOP (R185). -/
def execNop (r : LinkRequest) (s : State) : Host.Outcome State Fault Refusal := linkStep .nop r s

/-- READ_STATUS (R185). -/
def execReadStatus (r : LinkRequest) (s : State) : Host.Outcome State Fault Refusal := linkStep .readStatus r s

/-- BEGIN_EPOCH (R67). -/
def execBeginEpoch (r : LinkRequest) (s : State) : Host.Outcome State Fault Refusal := linkStep .beginEpoch r s

/-- COMMIT_EPOCH (R71). -/
def execCommitEpoch (r : LinkRequest) (s : State) : Host.Outcome State Fault Refusal := linkStep .commitEpoch r s

/-- ABORT_EPOCH (R86). -/
def execAbortEpoch (r : LinkRequest) (s : State) : Host.Outcome State Fault Refusal := linkStep .abortEpoch r s

/-- FORMAT_JOURNAL (R105). -/
def execFormatJournal (r : LinkRequest) (s : State) : Host.Outcome State Fault Refusal := linkStep .formatJournal r s

/-- RECOVER_JOURNAL (R105). -/
def execRecoverJournal (r : LinkRequest) (s : State) : Host.Outcome State Fault Refusal := linkStep .recoverJournal r s

/-- SET_PARAM (R187). -/
def execSetParam (r : LinkRequest) (s : State) : Host.Outcome State Fault Refusal := linkStep .setParam r s

/-- GET_PARAM (R188). -/
def execGetParam (r : LinkRequest) (s : State) : Host.Outcome State Fault Refusal := linkStep .getParam r s

/-- WRITE_REGION (R132). -/
def execWriteRegion (r : LinkRequest) (s : State) : Host.Outcome State Fault Refusal := linkStep .writeRegion r s

/-- READ_REGION (R133). -/
def execReadRegion (r : LinkRequest) (s : State) : Host.Outcome State Fault Refusal := linkStep .readRegion r s

/-- READ_ALERTS (R165). -/
def execReadAlerts (r : LinkRequest) (s : State) : Host.Outcome State Fault Refusal := linkStep .readAlerts r s

/-- CLEAR_ALERTS (R165). -/
def execClearAlerts (r : LinkRequest) (s : State) : Host.Outcome State Fault Refusal := linkStep .clearAlerts r s

/-- POP_INCIDENT (R168). -/
def execPopIncident (r : LinkRequest) (s : State) : Host.Outcome State Fault Refusal := linkStep .popIncident r s

/-- POP_COMPLETION (R170). -/
def execPopCompletion (r : LinkRequest) (s : State) : Host.Outcome State Fault Refusal := linkStep .popCompletion r s

/-- RESET_PART with the argument of its soft form (R189). The argument of the request decides, as the M-link reads it. -/
def execResetPartSoft (r : LinkRequest) (s : State) : Host.Outcome State Fault Refusal := linkStep .resetPart r s

/-- RESET_PART with the argument of its forced form (R189). The argument of the request decides, as the M-link reads
it. -/
def execResetPartForce (r : LinkRequest) (s : State) : Host.Outcome State Fault Refusal := linkStep .resetPart r s

/-- A request frame with a code the table does not have (R184). A code of the table is dispatched as it reads. -/
def execUnknownCommand (code : Byte) (r : LinkRequest) (s : State) : Host.Outcome State Fault Refusal :=
  .next (takeReply r.sequence (dispatch code r) s)

/-- The judgement of the bits of a transaction (R182): FRAME_ERROR, or the request that they form, dispatched. -/
def execFrameError (bits : List Bool) (s : State) : Host.Outcome State Fault Refusal :=
  match judgeFrame bits with
  | .error echo => .next (takeReply echo (refusal .frameError []) s)
  | .ok f => .next (takeReply f.sequence (dispatch f.code { sequence := f.sequence, args := f.args }) s)

/-- The frame that the part shifts out in a transaction that begins now (R179). -/
def State.outgoing (s : State) : List Word := s.response.getD emptyFrame

/-- Bit k that MDO carries in the transaction in progress, k counted from its first MCK cycle: the bits of its frame in
order, and zero bits for the rest (R179). -/
def Transaction.mdoBit (t : Transaction) (k : Nat) : Bool := (t.frame.flatMap bitsOfWord).getD k false

/-- Assertion of MCS# (R179). While it is asserted already nothing changes. While RST# is held only the line is noted:
the transaction begins at the release of RST# (R192). -/
def execMcsAsserted (s : State) : Host.Outcome State Fault Refusal :=
  .next
    (if s.mcs then s
     else if s.rstHeld then { s with mcs := true }
     else { s with mcs := true, transaction := some (openTransaction s.outgoing) })

end Sys2Proof.Machine
end

