-- ==== Sys2Proof/Machine/Dispatch.lean ====
section
/-! DEFINITION. The meaning of every command: one direct call for each constructor. -/

namespace Sys2Proof.Machine

/-- The effect of a command on everything but the queue. -/
def exec (i : Instr) (s : State) : Host.Outcome State Fault Refusal :=
  match i with
  | .writeRequest r => Sys2Proof.Machine.execWriteRequest r s
  | .readRequest r => Sys2Proof.Machine.execReadRequest r s
  | .nop r => Sys2Proof.Machine.execNop r s
  | .readStatus r => Sys2Proof.Machine.execReadStatus r s
  | .beginEpoch r => Sys2Proof.Machine.execBeginEpoch r s
  | .commitEpoch r => Sys2Proof.Machine.execCommitEpoch r s
  | .abortEpoch r => Sys2Proof.Machine.execAbortEpoch r s
  | .formatJournal r => Sys2Proof.Machine.execFormatJournal r s
  | .recoverJournal r => Sys2Proof.Machine.execRecoverJournal r s
  | .setParam r => Sys2Proof.Machine.execSetParam r s
  | .getParam r => Sys2Proof.Machine.execGetParam r s
  | .writeRegion r => Sys2Proof.Machine.execWriteRegion r s
  | .readRegion r => Sys2Proof.Machine.execReadRegion r s
  | .readAlerts r => Sys2Proof.Machine.execReadAlerts r s
  | .clearAlerts r => Sys2Proof.Machine.execClearAlerts r s
  | .popIncident r => Sys2Proof.Machine.execPopIncident r s
  | .popCompletion r => Sys2Proof.Machine.execPopCompletion r s
  | .resetPartSoft r => Sys2Proof.Machine.execResetPartSoft r s
  | .resetPartForce r => Sys2Proof.Machine.execResetPartForce r s
  | .frameError bits => Sys2Proof.Machine.execFrameError bits s
  | .unknownCommand code r => Sys2Proof.Machine.execUnknownCommand code r s
  | .softResetTakesPlace => Sys2Proof.Machine.execSoftResetTakesPlace s
  | .pfwAssert => Sys2Proof.Machine.execPfwAssert s
  | .pfwRelease => Sys2Proof.Machine.execPfwRelease s
  | .enterSafe => Sys2Proof.Machine.execEnterSafe s
  | .rstAssert => Sys2Proof.Machine.execRstAssert s
  | .rstRelease straps => Sys2Proof.Machine.execRstRelease straps s
  | .spaceWaitExpiry => Sys2Proof.Machine.execSpaceWaitExpiry s
  | .spaceGranted => Sys2Proof.Machine.execSpaceGranted s
  | .autoCommitExpiry => Sys2Proof.Machine.execAutoCommitExpiry s
  | .pendingAutoCommitTaken => Sys2Proof.Machine.execPendingAutoCommitTaken s
  | .dsTimeout tag => Sys2Proof.Machine.execDsTimeout tag s
  | .busyAnswer tag => Sys2Proof.Machine.execBusyAnswer tag s
  | .reissue tag => Sys2Proof.Machine.execReissue tag s
  | .lateAnswer tag answer => Sys2Proof.Machine.execLateAnswer tag answer s
  | .tagGrant => Sys2Proof.Machine.execTagGrant s
  | .dataWriteIssue => Sys2Proof.Machine.execDataWriteIssue s
  | .dataWriteAnswer tag answer => Sys2Proof.Machine.execDataWriteAnswer tag answer s
  | .dataReadIssue => Sys2Proof.Machine.execDataReadIssue s
  | .dataReadAnswer tag answer beats => Sys2Proof.Machine.execDataReadAnswer tag answer beats s
  | .captureStart => Sys2Proof.Machine.execCaptureStart s
  | .undoReadAnswer tag answer beats => Sys2Proof.Machine.execUndoReadAnswer tag answer beats s
  | .undoSlotWriteAnswer tag answer => Sys2Proof.Machine.execUndoSlotWriteAnswer tag answer s
  | .openSlotWriteAnswer tag answer => Sys2Proof.Machine.execOpenSlotWriteAnswer tag answer s
  | .closerCapturingDone => Sys2Proof.Machine.execCloserCapturingDone s
  | .closeWriteIssue => Sys2Proof.Machine.execCloseWriteIssue s
  | .closeSlotWriteAnswer tag answer => Sys2Proof.Machine.execCloseSlotWriteAnswer tag answer s
  | .anchorClaimIssue => Sys2Proof.Machine.execAnchorClaimIssue s
  | .anchorWriteAnswer tag answer => Sys2Proof.Machine.execAnchorWriteAnswer tag answer s
  | .rollbackSettled => Sys2Proof.Machine.execRollbackSettled s
  | .rollbackSlotReadAnswer tag answer beats => Sys2Proof.Machine.execRollbackSlotReadAnswer tag answer beats s
  | .rollbackRestoreIssue => Sys2Proof.Machine.execRollbackRestoreIssue s
  | .rollbackRestoreAnswer tag answer => Sys2Proof.Machine.execRollbackRestoreAnswer tag answer s
  | .rollbackAbandonAnswer tag answer => Sys2Proof.Machine.execRollbackAbandonAnswer tag answer s
  | .anchorReadAnswer tag answer beats => Sys2Proof.Machine.execAnchorReadAnswer tag answer beats s
  | .formatAnchorWriteAnswer tag answer => Sys2Proof.Machine.execFormatAnchorWriteAnswer tag answer s
  | .scanSlotReadAnswer tag answer beats => Sys2Proof.Machine.execScanSlotReadAnswer tag answer beats s
  | .mountReplayReadAnswer tag answer beats => Sys2Proof.Machine.execMountReplayReadAnswer tag answer beats s
  | .mountRestoreIssue => Sys2Proof.Machine.execMountRestoreIssue s
  | .mountRestoreAnswer tag answer => Sys2Proof.Machine.execMountRestoreAnswer tag answer s
  | .mountAbandonAnswer tag answer => Sys2Proof.Machine.execMountAbandonAnswer tag answer s
  | .mountFromFaulted => Sys2Proof.Machine.execMountFromFaulted s
  | .orphanOperationAnswer tag answer beats => Sys2Proof.Machine.execOrphanOperationAnswer tag answer beats s
  | .mcsAsserted => Sys2Proof.Machine.execMcsAsserted s

end Sys2Proof.Machine
end

