-- ==== Sys2Proof/Machine/Time.lean ====
section
/-! DEFINITION. The part's own time: what a microsecond does to the timers, and which timer is due (R13, R79, R155 and
"Time" in the scope file), and the MCK cycles of the link (R179). DESIGN CHOICE (log entries 7 and 18): time passes, and
the link is clocked, where no command waits. -/

namespace Sys2Proof.Machine

/-- A record one microsecond later. -/
def Op.later (o : Op) : Op :=
  match o.phase with
  | .inFlight t left => { o with phase := .inFlight t (left - 1) }
  | _ => o

/-- One microsecond passes: the timebase counts, and every running timer has one microsecond less to run. -/
def advanceTime (s : State) : State :=
  { s with
    timebase := s.timebase + 1,
    spaceWaiter := s.spaceWaiter.map (fun w => { w with timer := w.timer.map (· - 1) }),
    autoTimer := s.autoTimer.map (· - 1),
    ops := s.ops.map Op.later }

/-- The tag of an IN_FLIGHT record whose timer has run out. -/
def Op.dueTag (o : Op) : Option DownTag :=
  match o.phase with
  | .inFlight t 0 => some t
  | _ => none

/-- The expiry that is due: the space wait, then the auto-commit, then the downstream timers in the order of their
records. -/
def dueCommand (s : State) : Option Instr :=
  if s.spaceWaiter.bind (·.timer) = some 0 ∧ s.waitingRecord.isSome = true then some .spaceWaitExpiry
  else if s.autoTimer = some 0 then some .autoCommitExpiry
  else (s.ops.findSome? Op.dueTag).map .dsTimeout

/-- An MCK cycle of the transaction in progress (R179). None while MCS# is released or the partner has no bit to give. -/
def mckCycle? (s : State) : Option State :=
  match s.transaction, s.mdi with
  | some t, bit :: rest => some { s with transaction := some (t.cycle bit), mdi := rest }
  | _, _ => none

/-- What happens where no command waits and no expiry is due: an MCK cycle that the partner gives, or else a
microsecond. -/
def passTime (s : State) : State := (mckCycle? s).getD (advanceTime s)

end Sys2Proof.Machine
end

