-- ==== Sys2Proof/Machine/Step.lean ====
section
/-! DEFINITION. One step: the command at the front of the queue, or time and the link's clock where no command waits. -/

namespace Sys2Proof.Machine

/-- The state with its front command taken out of the queue. -/
def State.dropFront (s : State) : State := { s with pending := s.pending.tail }

/-- What the part does where no command waits: an expiry that is due, an MCK cycle, or a microsecond (log entries 7 and
18). -/
def idle (s : State) : Host.Outcome State Fault Refusal :=
  match dueCommand s with
  | some c => exec c s
  | none => .next (passTime s)

/-- One step. -/
def step (s : State) : Host.Outcome State Fault Refusal :=
  match s.pending with
  | [] => idle s
  | c :: _ => exec c s.dropFront

/-- The state with the command that a word spells put at the front of the queue; unchanged where it spells none. -/
def State.withFetchWord (s : State) (nbits w : Nat) : State :=
  match decodeTableWord nbits w with
  | some c => { s with pending := c :: s.pending }
  | none => s

end Sys2Proof.Machine
end

