-- ==== Sys2Proof/Safety.lean ====
section
/-! DEFINITION. What the part keeps true from every step to the next: the manual's statements about the whole part, as
conditions on one state. -/

namespace Sys2Proof.Machine

/-- The data writes in flight or about to be: the records of the in-flight set, and the DATA_WRITE that waits for its
tag (R27, R29). -/
def State.writeLoad (s : State) : Nat := s.inFlight.length + (s.ops.filter (·.waitingWrite)).length

/-- No collection exceeds its capacity ("Capacities at a glance", R23, R27, R36, R52, R121, R167, R169). While a capture
waits for space there is room for it among the captures in progress (R51). -/
structure State.WithinCapacity (s : State) : Prop where
  queue : s.writeQueue.length ≤ 32
  tracker : s.readTracker.length ≤ 8
  load : s.writeLoad ≤ 8
  captures : s.captures.length ≤ 4
  waiter : s.spaceWaiter.isSome = true → s.captures.length < 4
  regions : s.regions.length = 16
  incidents : s.incidents.length ≤ 16
  drops : s.drops ≤ 255
  completions : s.completions.length ≤ 4
  discarded : ∀ c ∈ s.completions, c.discarded ≤ 255

/-- Every setting holds a value acceptable for it (R186), and every valid region entry a size exponent in 12..32 and a
base that is a multiple of its size (R121). -/
structure State.Configured (s : State) : Prop where
  settings : s.settings.legal = true
  regions : ∀ r, some r ∈ s.regions → r.legal = true

/-- The Granule Filter never holds a granule twice, never holds more than 1024 granules, and is empty whenever no epoch
is ACTIVE (R44). -/
structure State.FilterSound (s : State) : Prop where
  once : (s.filter.map (·.granule)).Nodup
  room : s.filter.length ≤ 1024
  clear : s.active = none → s.filter = []

/-- Next sequence is tail sequence plus occupancy modulo 2^32, while there is a ring state (R2). -/
def State.RingOrdered (s : State) : Prop :=
  ∀ r, s.ring = some r → r.nextSeq = r.tailSeq + BitVec.ofNat 32 r.occupancy

/-- Each record of the Epoch Controller, the Rollback Engine and the Mount Engine is present exactly in the controller
states that have it (R63, R65, R73, R83, R85, R104, R79, R80); while RST# is held the controller is UNMOUNTED (R84). -/
structure State.ControllerSound (s : State) : Prop where
  active : s.active.isSome = decide (s.controller = .active)
  rollback : s.rollback.isSome = decide (s.controller = .rollingBack)
  mount : s.mount.isSome = decide (s.controller = .mounting)
  closing : s.closing.isSome = true → s.controller = .idle ∨ s.controller = .active ∨ s.controller = .rollingBack
  request : s.mountRequest.isSome = true → s.controller = .faulted
  timer : s.autoTimer.isSome = true → s.controller = .active
  pending : s.pendingAuto = true → s.controller = .active
  held : s.rstHeld = true → s.controller = .unmounted

/-- The part holds only while PFW is asserted, and in SAFE no downstream operation is in flight (R175, R178). -/
structure State.SafeSound (s : State) : Prop where
  warned : s.hold ≠ .run → s.pfw = true
  quiet : s.hold = .safe → ∀ o ∈ s.ops, o.flying = false

/-- The tags that operation records hold and the QUARANTINED tags. -/
def State.usedTags (s : State) : List DownTag := s.ops.filterMap (fun o => o.phase.tag?) ++ s.quarantined

/-- A downstream tag is held by at most one record and is then not QUARANTINED (R145), and the places of the ready order
are distinct and given out in order (R144). -/
structure State.TagsSound (s : State) : Prop where
  tags : s.usedTags.Nodup
  places : (s.ops.map (·.ready)).Nodup
  fresh : ∀ o ∈ s.ops, o.ready < s.nextReady

/-- A request of the M-link has been taken and answered, and nothing else has changed (R180, R183): the transaction has
ended, and the response with this code, sequence echo and these result words is pending. -/
def State.answered (s : State) (code : Response) (sequence : Byte) (words : List Word) : State :=
  { s with mcs := false, transaction := none, response := some (buildFrame code.code sequence words) }

/-- An upstream request has been answered, and nothing else has changed (R137). -/
def State.told (s : State) (tag : UpTag) (status : Status) (data : List Beat) : State :=
  { s with responses := s.responses ++ [{ tag := tag, status := status, data := data }] }

/-- The part runs: RST# is released, no hold and no soft-reset drain is under way, so that requests are judged by their
own conditions (R140, R148, R173, R190). -/
def State.running (s : State) : Prop := s.rstHeld = false ∧ s.hold = .run ∧ s.drain = none

/-- An answer of memory under this tag reaches the IN_FLIGHT record `o` (R147). -/
def State.answering (s : State) (t : DownTag) (o : Op) : Prop := t ∉ s.quarantined ∧ s.flyingAt t = some o

/-- One step that the part takes by itself: the first of its own steps, in their order, that can be taken (log entry 4). -/
def FirstOwnStep (s t : State) : Prop :=
  ∃ (before after : List (State → Option State)) (f : State → Option State),
    internalSteps = before ++ f :: after ∧ (∀ g ∈ before, g s = none) ∧ f s = some t

end Sys2Proof.Machine
end

