-- ==== Sys2Proof/WellFormed.lean ====
section
/-! DEFINITION. When a command's operands agree with the row that it stands for. Commands that fail these checks still
have a meaning: the M-link and the U-port judge what they receive. -/

namespace Sys2Proof

/-- A request frame carries at most six argument words (R181). -/
def LinkRequest.fits (r : LinkRequest) : Bool := decide (r.args.length ≤ 6)

/-- The bits of a transaction do not form a request frame (R182). -/
def badBits (bits : List Bool) : Bool :=
  match Machine.judgeFrame bits with
  | .error _ => true
  | .ok _ => false

/-- Whether a command's operands agree with its row. A link request has at most six arguments. UNKNOWN_COMMAND has a code
the table lacks, FRAME_ERROR has bits that form no frame, and neither form of RESET_PART has the argument of the
other (R181, R182, R184, R189). -/
def Instr.wf : Instr → Bool
  | .writeRequest _ => true
  | .readRequest _ => true
  | .nop r => r.fits
  | .readStatus r => r.fits
  | .beginEpoch r => r.fits
  | .commitEpoch r => r.fits
  | .abortEpoch r => r.fits
  | .formatJournal r => r.fits
  | .recoverJournal r => r.fits
  | .setParam r => r.fits
  | .getParam r => r.fits
  | .writeRegion r => r.fits
  | .readRegion r => r.fits
  | .readAlerts r => r.fits
  | .clearAlerts r => r.fits
  | .popIncident r => r.fits
  | .popCompletion r => r.fits
  | .resetPartSoft r => r.fits && decide (r.args ≠ [1#32])
  | .resetPartForce r => r.fits && decide (r.args ≠ [0#32])
  | .frameError bits => badBits bits
  | .unknownCommand code r => r.fits && (Machine.linkCommand code).isNone
  | .softResetTakesPlace => true
  | .pfwAssert => true
  | .pfwRelease => true
  | .enterSafe => true
  | .rstAssert => true
  | .rstRelease _ => true
  | .spaceWaitExpiry => true
  | .spaceGranted => true
  | .autoCommitExpiry => true
  | .pendingAutoCommitTaken => true
  | .dsTimeout _ => true
  | .busyAnswer _ => true
  | .reissue _ => true
  | .lateAnswer _ _ => true
  | .tagGrant => true
  | .dataWriteIssue => true
  | .dataWriteAnswer _ _ => true
  | .dataReadIssue => true
  | .dataReadAnswer _ _ _ => true
  | .captureStart => true
  | .undoReadAnswer _ _ _ => true
  | .undoSlotWriteAnswer _ _ => true
  | .openSlotWriteAnswer _ _ => true
  | .closerCapturingDone => true
  | .closeWriteIssue => true
  | .closeSlotWriteAnswer _ _ => true
  | .anchorClaimIssue => true
  | .anchorWriteAnswer _ _ => true
  | .rollbackSettled => true
  | .rollbackSlotReadAnswer _ _ _ => true
  | .rollbackRestoreIssue => true
  | .rollbackRestoreAnswer _ _ => true
  | .rollbackAbandonAnswer _ _ => true
  | .anchorReadAnswer _ _ _ => true
  | .formatAnchorWriteAnswer _ _ => true
  | .scanSlotReadAnswer _ _ _ => true
  | .mountReplayReadAnswer _ _ _ => true
  | .mountRestoreIssue => true
  | .mountRestoreAnswer _ _ => true
  | .mountAbandonAnswer _ _ => true
  | .mountFromFaulted => true
  | .orphanOperationAnswer _ _ _ => true
  | .mcsAsserted => true

end Sys2Proof
end

