-- ==== Sys2Proof/Certificates/Slice0/Obligations.lean ====
section
/-! DEFINITION. The statements for the provers: what the part does, from the rules of the manual. -/

open Sys2Proof Sys2Proof.Machine

/-! ### Commands, time and what every command keeps -/

/-- One step with a command at the front of the queue is the command's effect, with the queue's rest. The manual tells
the part's behaviour as events, one after another; that they wait in a queue is the model's choice (log entry 10). -/
def Obligations.StepRunsFrontCommand : Prop :=
  ∀ (c : Instr) (q : List Instr) (s : State), step { s with pending := c :: q } = exec c { s with pending := q }

/-- The model's choice (log entries 7 and 18): with no command waiting, the expiry that is due takes place, the space
wait's before the auto-commit timer's and that before the downstream timers' in the order of their records. Where none
is due, an MCK cycle of the transaction in progress takes the next bit of MDI and shifts out a bit of the frame while
it has any left (R179). With no such cycle to take, one microsecond passes and every running timer has one microsecond
less to run. -/
def Obligations.EmptyQueueLetsTimePass : Prop :=
  ∀ s : State, s.pending = [] →
    let spaceDue : Prop :=
      ∃ w c, s.spaceWaiter = some w ∧ w.timer = some 0 ∧ c ∈ s.captureOrder ∧ c.entry = w.entry
    (spaceDue → step s = exec .spaceWaitExpiry s) ∧
    (¬spaceDue → s.autoTimer = some 0 → step s = exec .autoCommitExpiry s) ∧
    (¬spaceDue → s.autoTimer ≠ some 0 →
      (∀ (before after : List Op) (o : Op) (t : DownTag), s.ops = before ++ o :: after → o.phase = .inFlight t 0 →
        (∀ x ∈ before, ∀ u, x.phase ≠ .inFlight u 0) → step s = exec (.dsTimeout t) s) ∧
      ((∀ o ∈ s.ops, ∀ t, o.phase ≠ .inFlight t 0) →
        (∀ (tr : Transaction) (bit : Bool) (rest : List Bool), s.transaction = some tr → s.mdi = bit :: rest →
          step s = .next { s with
            mdi := rest,
            transaction := some
              { frame := tr.frame, received := tr.received ++ [bit],
                shifted := if tr.shifted < 32 * tr.frame.length then tr.shifted + 1 else tr.shifted } }) ∧
        (s.transaction = none ∨ s.mdi = [] →
          step s = .next { s with
            timebase := s.timebase + 1,
            spaceWaiter := s.spaceWaiter.map (fun w => { w with timer := w.timer.map (fun n => n - 1) }),
            autoTimer := s.autoTimer.map (fun n => n - 1),
            ops := s.ops.map (fun o =>
              match o.phase with
              | .inFlight t left => { o with phase := .inFlight t (left - 1) }
              | _ => o) })))

/-- The model's form (log entries 1 and 7): every command answers a next state, and leaves the queue of waiting
commands and the timebase as they are. -/
def Obligations.EveryCommandAnswersNext : Prop :=
  ∀ (c : Instr) (s : State), ∃ t, exec c s = .next t ∧ t.pending = s.pending ∧ t.timebase = s.timebase

/-- What the part has sent stands: a command only adds to the responses on the upstream port and to the issues on the
downstream port (log entry 16). -/
def Obligations.OutputsOnlyGrow : Prop :=
  ∀ (c : Instr) (s t : State), exec c s = .next t → s.responses <+: t.responses ∧ s.issues <+: t.issues

/-- A setting changes only by SET_PARAM and at the release of RST#, a region entry only by WRITE_REGION and at the
assertion of RST#, and the PFW and RST# lines only by their own events. -/
def Obligations.SettingsRegionsAndLinesChangeOnlyByTheirCommands : Prop :=
  ∀ (c : Instr) (s t : State), c.wf = true → exec c s = .next t →
    ((∃ r, c = .setParam r) ∨ (∃ st, c = .rstRelease st) ∨ t.settings = s.settings) ∧
    ((∃ r, c = .writeRegion r) ∨ c = .rstAssert ∨ t.regions = s.regions) ∧
    (c = .pfwAssert ∨ c = .pfwRelease ∨ t.pfw = s.pfw) ∧
    (c = .rstAssert ∨ (∃ st, c = .rstRelease st) ∨ t.rstHeld = s.rstHeld)

/-- The model's form (log entries 3 and 4): an event carried to its end is a run of the part's own steps, each the
first of them that can be taken, up to a state where none can, or up to the bound on their number. In that state no
row of the table that is such a step changes anything. The run leaves the settings, the region table, the input lines,
the link transaction, the bits waiting on MDI, the timebase, the queue of commands and the acceptance order as they
are. -/
def Obligations.EventsEndByTheOwnSteps : Prop :=
  ∀ s : State,
    (∃ run : List State,
      (s :: run).IsChain FirstOwnStep ∧ settle s = run.getLastD s ∧ run.length ≤ Config.settleFuel ∧
      (run.length < Config.settleFuel →
        (∀ f ∈ internalSteps, f (settle s) = none) ∧
        (∀ c ∈ ([.tagGrant, .spaceGranted, .captureStart, .closerCapturingDone, .rollbackSettled,
            .pendingAutoCommitTaken, .mountFromFaulted, .closeWriteIssue, .anchorClaimIssue, .rollbackRestoreIssue,
            .mountRestoreIssue, .dataWriteIssue, .dataReadIssue, .softResetTakesPlace, .enterSafe] : List Instr),
          exec c (settle s) = .next (settle s)) ∧
        ∀ t, exec (.reissue t) (settle s) = .next (settle s))) ∧
    ((∀ f ∈ internalSteps, f s = none) → settle s = s) ∧
    (settle s).settings = s.settings ∧ (settle s).regions = s.regions ∧ (settle s).pfw = s.pfw ∧
    (settle s).rstHeld = s.rstHeld ∧ (settle s).mcs = s.mcs ∧ (settle s).transaction = s.transaction ∧ (settle s).mdi = s.mdi ∧
    (settle s).timebase = s.timebase ∧ (settle s).pending = s.pending ∧ (settle s).nextPlace = s.nextPlace

/-! ### What every step keeps -/

/-- No collection exceeds its capacity, in every state after a step from a state where none does. -/
def Obligations.StepsKeepCapacities : Prop :=
  ∀ s t : State, s.WithinCapacity → step s = .next t → t.WithinCapacity

/-- Settings and region entries stay acceptable. -/
def Obligations.StepsKeepConfiguration : Prop :=
  ∀ s t : State, s.Configured → step s = .next t → t.Configured

/-- The Granule Filter stays a set of at most 1024 granules, empty whenever no epoch is ACTIVE. -/
def Obligations.StepsKeepGranuleFilter : Prop :=
  ∀ s t : State, s.FilterSound → step s = .next t → t.FilterSound

/-- Next sequence stays tail sequence plus occupancy. -/
def Obligations.StepsKeepRingSequences : Prop :=
  ∀ s t : State, s.RingOrdered → step s = .next t → t.RingOrdered

/-- The records of the epoch, rollback and mount engines stay tied to the controller state. -/
def Obligations.StepsKeepControllerRecords : Prop :=
  ∀ s t : State, s.ControllerSound → step s = .next t → t.ControllerSound

/-- The part holds only under PFW, and in SAFE no downstream operation is in flight. -/
def Obligations.StepsKeepSafePromise : Prop :=
  ∀ s t : State, s.SafeSound → step s = .next t → t.SafeSound

/-- No downstream tag is used twice. -/
def Obligations.StepsKeepTagsDistinct : Prop :=
  ∀ s t : State, s.TagsSound → step s = .next t → t.TagsSound

/-- The state after reset meets every condition that steps keep. -/
def Obligations.ResetStateIsSound : Prop :=
  State.reset.WithinCapacity ∧ State.reset.Configured ∧ State.reset.FilterSound ∧ State.reset.RingOrdered ∧
    State.reset.ControllerSound ∧ State.reset.SafeSound ∧ State.reset.TagsSound

/-! ### Formats -/

/-- Slots are written in the layouts of R4 and R5, with the kind codes of R4, and every slot written has a valid check
(R6); words laid into beats come back out of them, word 0 from the lowest address (R147). The order of a word's bytes
in a beat is the model's reading (log entry 20). -/
def Obligations.WrittenSlotsHaveTheirLayout : Prop :=
  ((∀ (k : SlotKind) (j q e a c i : Word) (p : List Word), p.length = 8 →
     let first : Word :=
       match k with
       | .openSlot => 0x00000101#32
       | .undo => 0x00000102#32
       | .close => 0x00000103#32
       | .abandon => 0x00000104#32
       | .anchor => 0x0000010A#32
     ∃ check, ringSlot k j q e a c i p = [first, j, q, e, a, c, i, check] ++ p ∧
       validCheck (ringSlot k j q e a c i p) = true) ∧
   (∀ k j q e c, markerSlot k j q e c = ringSlot k j q e 0 c 0 [0, 0, 0, 0, 0, 0, 0, 0]) ∧
   (∀ j g n t q e l : Word,
     ∃ check, anchorSlot j g n t q e l = [0x0000010A#32, j, g, n, t, q, e, l, 0, 0, 0, 0, 0, 0, 0, check] ∧
       validCheck (anchorSlot j g n t q e l) = true) ∧
   (∀ ws : List Word, validCheck ws = true ↔ ws.length = 16 ∧ ws.foldr (fun w a => w + a) 0 = 0x5EC72408#32)) ∧
  (∀ ws : List Word, ws.length % 2 = 0 →
     wordsOfBeats (beatsOfWords ws) = ws ∧ 2 * (beatsOfWords ws).length = ws.length)

/-- A request frame of at most six arguments, clocked in with any whole words of fill after it, is read back with its
code, sequence and arguments. -/
def Obligations.RequestFramesReadBack : Prop :=
  ∀ (code sequence : Byte) (args : List Word) (fill : List Bool), args.length ≤ 6 → fill.length % 32 = 0 →
    judgeFrame (requestBits code sequence args ++ fill) = .ok { code := code, sequence := sequence, args := args }

/-- Every response frame has its code, sequence echo, count and check byte in their places in word 0 and the result
words after it (R181), and a valid check: all its bytes sum to 0xA5 modulo 256 (R182). The response codes and the
reasons of REFUSED are those of R183, and what a request leaves pending is the frame of its answer. -/
def Obligations.ResponseFramesHaveValidChecks : Prop :=
  (∀ (code sequence : Byte) (ws : List Word),
    validFrame (buildFrame code sequence ws) = true ∧
    ∃ first : Word, buildFrame code sequence ws = first :: ws ∧
      first.extractLsb' 0 8 = code ∧ first.extractLsb' 8 8 = sequence ∧
      first.extractLsb' 16 8 = BitVec.ofNat 8 ws.length) ∧
  (∀ ws : List Word, validFrame ws = true ↔
    (ws.flatMap (fun w => [w.extractLsb' 0 8, w.extractLsb' 8 8, w.extractLsb' 16 8, w.extractLsb' 24 8])).foldr
      (fun b a => b + a) 0 = 0xA5#8) ∧
  (∀ (answer : Response) (sequence : Byte) (ws : List Word) (s : State),
    (s.answered answer sequence ws).response = some (buildFrame
      (match answer with
       | .empty => 0x00#8 | .done => 0x01#8 | .started => 0x02#8 | .busy => 0x03#8 | .refused => 0x04#8
       | .unknownCommand => 0x05#8 | .badArgument => 0x06#8 | .frameError => 0x07#8) sequence ws)) ∧
  ∀ reason : Reason, reason.code =
    match reason with
    | .notMounted => 1 | .noEpoch => 2 | .epochOpen => 3 | .journalFull => 4 | .wrongState => 5 | .holding => 6
    | .geometry => 7

/-! ### The ring -/

/-- An allocation gives head and next sequence, and changes nothing but the ring and, by the test of R16, SPACE_LOW
(R9). An acknowledged slot leaves the pending set, and the frontier advances over every allocated sequence after it up
to the first that is pending (R14). -/
def Obligations.RingAllocatesAtHeadAndTracksTheFrontier : Prop :=
  (∀ (s : State) (g : Ring), s.ring = some g →
     allocate s = some ({ position := g.head, sequence := g.nextSeq },
       { s with
         ring := some { g with
           head := if g.head + 1 < s.slotsInUse then g.head + 1 else 2,
           nextSeq := g.nextSeq + 1, occupancy := g.occupancy + 1, unacked := g.unacked ++ [g.nextSeq] },
         latched :=
           if s.controller ≠ .mounting ∧ s.settings.lowSpaceSlots.toNat ≤ s.freeOf g
               ∧ s.freeOf g - 1 < s.settings.lowSpaceSlots.toNat then s.latched ||| 0x04#6
           else s.latched })) ∧
  (∀ (g : Ring) (q : Word),
     let start := match g.frontier with | some f => f + 1 | none => g.startSeq
     let left := g.unacked.erase q
     let allocated := (g.nextSeq - start).toNat
     ∃ k ≤ allocated,
       (∀ i < k, start + BitVec.ofNat 32 i ∉ left) ∧
       (k = allocated ∨ start + BitVec.ofNat 32 k ∈ left) ∧
       g.acknowledged q =
         { g with unacked := left,
                  frontier := if k = 0 then g.frontier else some (start + BitVec.ofNat 32 k - 1) } ∧
       ∀ x, (g.acknowledged q).coversSeq x =
         match (g.acknowledged q).frontier with
         | some f => !later x f
         | none => false)

/-! ### The management link -/

/-- NOP is answered DONE with no result words and changes no state; READ_STATUS is answered DONE with the eight words
of R185; either is answered BAD_ARGUMENT where it carries an argument (R184). -/
def Obligations.NopAndReadStatusAnswer : Prop :=
  ∀ (r : LinkRequest) (s : State), s.rstHeld = false →
    (r.args ≠ [] →
      exec (.nop r) s = .next (s.answered .badArgument r.sequence []) ∧
      exec (.readStatus r) s = .next (s.answered .badArgument r.sequence [])) ∧
    (r.args = [] →
      exec (.nop r) s = .next (s.answered .done r.sequence []) ∧
      exec (.readStatus r) s = .next (s.answered .done r.sequence
        (let controller : Word :=
          match s.controller with
          | .unmounted => 0 | .mounting => 1 | .idle => 2 | .active => 3 | .rollingBack => 4 | .faulted => 5
         let closer : Word :=
          match s.closing with
          | none => 0
          | some c => match c.stage with | .capturing => 1 | .draining => 2 | .marking => 3 | .reclaiming => 4
         let hold : Word := match s.hold with | .run => 0 | .holding => 1 | .safe => 2
         let counts : Word × Word × Word :=
          if s.controller = .unmounted ∨ s.controller = .mounting then (0, 0, 0)
          else
            match s.ring, s.geometry with
            | some g, some m =>
              (BitVec.ofNat 32 (m.slots - 2 - g.occupancy), BitVec.ofNat 32 g.occupancy, BitVec.ofNat 32 g.owed)
            | some g, none => (0, BitVec.ofNat 32 g.occupancy, BitVec.ofNat 32 g.owed)
            | none, _ => (0, 0, 0)
         [ controller ||| closer <<< 8 ||| hold <<< 16 ||| (if s.drain = none then 0 else 0x01000000#32),
           (match s.active with | some a => a.number | none => 0),
           (match s.closing with | some c => c.record.number | none => 0),
           counts.1, counts.2.1, counts.2.2, s.latched.zeroExtend 32,
           BitVec.ofNat 32 (s.incidents.length % 256 + 256 * (s.completions.length % 256)) ])))

/-- SET_PARAM: the four tests of R187 in their order, the acceptable values being those of R186; the value stored is
read back by GET_PARAM, and no other setting changes. -/
def Obligations.SetParamStoresAcceptableValues : Prop :=
  ∀ (q : Byte) (id v : Word) (s : State), s.rstHeld = false →
    let n := v.toNat
    let acceptable : Prop :=
      match id.toNat with
      | 1 => n % 65536 = 0
      | 2 => n = 0 ∨ (1024 ≤ n ∧ n ≤ 262144 ∧ n % 256 = 0)
      | 3 => n ≤ 2
      | 4 => n ≤ 65535
      | 5 => n ≤ 65535
      | 6 => n ≤ 65535
      | 7 => n = 2 ∨ n = 4 ∨ n = 16 ∨ n = 64
      | 8 => n ≤ 1
      | 9 => 1 ≤ n ∧ n ≤ 4095
      | 10 => n ≤ 1
      | 11 => n ≤ 1
      | 12 => n < 64
      | _ => False
    let request : Instr := .setParam { sequence := q, args := [id, v] }
    (¬acceptable → exec request s = .next (s.answered .badArgument q [])) ∧
    (acceptable → id.toNat ≤ 2 → s.controller ≠ .unmounted → exec request s = .next (s.answered .refused q [5])) ∧
    (acceptable → (id.toNat ≤ 2 → s.controller = .unmounted) →
      ∃ t : Settings,
        exec request s = .next ({ s with settings := t }.answered .done q [v]) ∧
        t.get id.toNat = some v ∧ ∀ k, k ≠ id.toNat → t.get k = s.settings.get k)

/-- GET_PARAM: an id outside 1..12 is answered BAD_ARGUMENT, any other DONE with the value stored, in the encoding of
R186; it changes no state. -/
def Obligations.GetParamReturnsTheStoredValue : Prop :=
  ∀ (q : Byte) (id : Word) (s : State), s.rstHeld = false →
    let t := s.settings
    (∀ args : List Word, args.length ≠ 1 →
      exec (.getParam { sequence := q, args := args }) s = .next (s.answered .badArgument q [])) ∧
    let answer (w : Word) : Prop :=
      exec (.getParam { sequence := q, args := [id] }) s = .next (s.answered .done q [w])
    match id.toNat with
    | 1 => answer t.journalBase
    | 2 => answer t.journalSlots
    | 3 => answer (match t.noEpochWrite with | .pass => 0 | .refuse => 1 | .autoOpen => 2)
    | 4 => answer t.fullWaitUs
    | 5 => answer t.lowSpaceSlots
    | 6 => answer t.autoCommitMs
    | 7 => answer t.retryLimit
    | 8 => answer (match t.exhaustAction with | .fail => 0 | .persist => 1)
    | 9 => answer t.dsTimeoutUs
    | 10 => answer (match t.holdMode with | .drain => 0 | .freeze => 1)
    | 11 => answer (match t.defaultClass with | .plain => 0 | .hole => 1)
    | 12 => answer (t.alertMask.zeroExtend 32)
    | _ => exec (.getParam { sequence := q, args := [id] }) s = .next (s.answered .badArgument q [])

/-- WRITE_REGION clears an entry or replaces it where its arguments are acceptable, and READ_REGION returns an entry
in the encoding of R132, and six zero words for an entry that is not valid (R133). -/
def Obligations.RegionsAreWrittenAndRead : Prop :=
  ∀ (q : Byte) (i b e c a m : Word) (s : State), s.rstHeld = false →
    let acceptable : Prop :=
      12 ≤ e.toNat ∧ e.toNat ≤ 32 ∧ b.toNat % 2 ^ e.toNat = 0 ∧ (c = 1#32 ∨ c = 2#32 ∨ c = 3#32)
        ∧ (a = 0#32 ∨ a = 1#32) ∧ m.toNat < 65536
    (∀ args : List Word, args.length ≠ 1 →
      exec (.readRegion { sequence := q, args := args }) s = .next (s.answered .badArgument q []) ∧
      (args.length ≠ 6 →
        exec (.writeRegion { sequence := q, args := args }) s = .next (s.answered .badArgument q []))) ∧
    (15 < i.toNat →
      exec (.writeRegion { sequence := q, args := [i] }) s = .next (s.answered .badArgument q []) ∧
      exec (.writeRegion { sequence := q, args := [i, b, e, c, a, m] }) s = .next (s.answered .badArgument q []) ∧
      exec (.readRegion { sequence := q, args := [i] }) s = .next (s.answered .badArgument q [])) ∧
    (i.toNat ≤ 15 →
      exec (.writeRegion { sequence := q, args := [i] }) s =
        .next ({ s with regions := s.regions.set i.toNat none }.answered .done q []) ∧
      (¬acceptable →
        exec (.writeRegion { sequence := q, args := [i, b, e, c, a, m] }) s = .next (s.answered .badArgument q [])) ∧
      (acceptable →
        ∃ r : Region,
          exec (.writeRegion { sequence := q, args := [i, b, e, c, a, m] }) s =
            .next ({ s with regions := s.regions.set i.toNat (some r) }.answered .done q []) ∧
          r.base = b ∧ r.exponent = e.toNat ∧ r.writeMask = m.extractLsb' 0 8 ∧ r.exemptMask = m.extractLsb' 8 8 ∧
          r.cls = (if c = 1#32 then .plain else if c = 2#32 then .journaled else .hole) ∧
          r.ack = (if a = 0#32 then .posted else .waited)) ∧
      exec (.readRegion { sequence := q, args := [i] }) s = .next (s.answered .done q
        (match (s.regions[i.toNat]?).join with
         | none => [0, 0, 0, 0, 0, 0]
         | some r =>
           [1, r.base, BitVec.ofNat 32 r.exponent,
            (match r.cls with | .plain => 1 | .journaled => 2 | .hole => 3),
            (match r.ack with | .posted => 0 | .waited => 1),
            r.writeMask.zeroExtend 32 ||| r.exemptMask.zeroExtend 32 <<< 8])))

/-- READ_ALERTS returns the latched set and ALERT_MASK and changes no state; CLEAR_ALERTS clears exactly the kinds
named and returns the set after the clear; ALERT# is asserted exactly when a latched kind is enabled (R164, R165). -/
def Obligations.AlertsAreReadAndCleared : Prop :=
  ∀ (q : Byte) (w : Word) (s : State), s.rstHeld = false →
    exec (.readAlerts { sequence := q, args := [] }) s =
      .next (s.answered .done q [s.latched.zeroExtend 32, s.settings.alertMask.zeroExtend 32]) ∧
    (64 ≤ w.toNat → exec (.clearAlerts { sequence := q, args := [w] }) s = .next (s.answered .badArgument q [])) ∧
    (w.toNat < 64 →
      ∃ left : BitVec 6,
        exec (.clearAlerts { sequence := q, args := [w] }) s =
          .next ({ s with latched := left }.answered .done q [left.zeroExtend 32]) ∧
        ∀ k < 6, left.getLsbD k = (s.latched.getLsbD k && !w.getLsbD k)) ∧
    (s.alertLine = true ↔ ∃ k < 6, s.latched.getLsbD k = true ∧ s.settings.alertMask.getLsbD k = true)

/-- The incident log keeps at most 16 records and counts what it drops up to 255, latching INCIDENT in both cases
(R167); POP_INCIDENT returns the oldest record with the dropped count in the six words of R168, and six zero words
where the log is empty. -/
def Obligations.IncidentsAreLoggedAndPopped : Prop :=
  (∀ (i : Incident) (s : State),
    (s.incidents.length < 16 →
      addIncident i s = { s with incidents := s.incidents ++ [i], latched := s.latched ||| 0x08#6 }) ∧
    (16 ≤ s.incidents.length →
      addIncident i s = { s with drops := min (s.drops + 1) 255, latched := s.latched ||| 0x08#6 })) ∧
  ∀ (q : Byte) (s : State), s.rstHeld = false →
    (∀ args : List Word, args ≠ [] →
      exec (.popIncident { sequence := q, args := args }) s = .next (s.answered .badArgument q [])) ∧
    (s.incidents = [] →
      exec (.popIncident { sequence := q, args := [] }) s = .next (s.answered .done q [0, 0, 0, 0, 0, 0])) ∧
    (∀ (i : Incident) (rest : List Incident), s.incidents = i :: rest →
      ∃ first : Word,
        exec (.popIncident { sequence := q, args := [] }) s =
          .next ({ s with incidents := rest, drops := 0 }.answered .done q
            [first, i.address.getD 0,
             (match i.initiator with | some v => BitVec.ofNat 32 v.val | none => 0) |||
               (match i.tag with | some v => BitVec.ofNat 32 (256 * v.val) | none => 0),
             i.epoch.getD 0, i.sequence.getD 0, BitVec.ofNat 32 rest.length]) ∧
        first.extractLsb' 0 8 =
          (match i.kind with
           | .writeProtected => 1 | .journalAreaAccess => 2 | .postedWriteFailed => 3 | .postedWriteNoSpace => 4
           | .undoFailed => 5 | .markerFailed => 6 | .anchorFailed => 7 | .restoreFailed => 8 | .slotInvalid => 9
           | .retryPersisting => 10 | .dsTimeout => 11) ∧
        first.getLsbD 8 = i.address.isSome ∧ first.getLsbD 9 = i.initiator.isSome ∧ first.getLsbD 10 = i.tag.isSome ∧
        first.getLsbD 11 = i.epoch.isSome ∧ first.getLsbD 12 = i.sequence.isSome ∧
        first.extractLsb' 13 3 = 0 ∧ first.extractLsb' 16 8 = BitVec.ofNat 8 s.drops ∧ first.extractLsb' 24 8 = 0)

/-- The completion list keeps the four newest records, each new record counting those discarded before it (R169);
POP_COMPLETION returns the oldest record in the five words of R170, and five zero words where the list is empty. -/
def Obligations.CompletionsAreListedAndPopped : Prop :=
  (∀ (c : Completion) (s : State),
    (s.completions.length < 4 →
      addCompletion c s =
        { s with completions := s.completions ++ [{ c with discarded := 0 }], latched := s.latched ||| 0x01#6 }) ∧
    (∀ (old : Completion) (rest : List Completion), s.completions = old :: rest → rest.length = 3 →
      addCompletion c s =
        { s with completions := rest ++ [{ c with discarded := min (1 + old.discarded) 255 }],
                 latched := s.latched ||| 0x01#6 })) ∧
  ∀ (q : Byte) (s : State), s.rstHeld = false →
    (∀ args : List Word, args ≠ [] →
      exec (.popCompletion { sequence := q, args := args }) s = .next (s.answered .badArgument q [])) ∧
    (s.completions = [] →
      exec (.popCompletion { sequence := q, args := [] }) s = .next (s.answered .done q [0, 0, 0, 0, 0])) ∧
    (∀ (c : Completion) (rest : List Completion), s.completions = c :: rest →
      ∃ first : Word,
        exec (.popCompletion { sequence := q, args := [] }) s =
          .next ({ s with completions := rest }.answered .done q
            [first, c.epoch.getD 0, BitVec.ofNat 32 c.countA, BitVec.ofNat 32 c.countB,
             BitVec.ofNat 32 rest.length]) ∧
        first.extractLsb' 0 8 = (match c.op with | .commit => 1 | .abort => 2 | .format => 3 | .recover => 4) ∧
        first.extractLsb' 8 8 =
          (match c.outcome with
           | .committed => 1 | .rolledBack => 2 | .formatted => 3 | .mountedClean => 4 | .mountedRolledBack => 5
           | .noAnchor => 6 | .geometryMismatch => 7 | .structureError => 8 | .failed => 9) ∧
        first.getLsbD 16 = (match c.trigger with | .host => false | .auto => true) ∧
        first.getLsbD 17 = c.epoch.isSome ∧ first.extractLsb' 18 6 = 0 ∧
        first.extractLsb' 24 8 = BitVec.ofNat 8 c.discarded)

/-! ### Epochs and mounts, as the link asks for them -/

/-- BEGIN_EPOCH: the tests of R67 in their order; an opening takes the next epoch number, allocates its OPEN at head
or, while the CLOSE is owed, defers it, and raises M by 1 or by 2 (R68). What a change enables follows in its event,
in the order that is the model's choice (`settle`, log entry 4). -/
def Obligations.BeginEpochOpensAnEpoch : Prop :=
  ∀ (q : Byte) (s : State), s.rstHeld = false →
    let answers (t : State) : Prop := exec (.beginEpoch { sequence := q, args := [] }) s = .next t
    if s.controller = .unmounted ∨ s.controller = .mounting then answers (s.answered .refused q [1])
    else if s.controller = .faulted ∨ s.controller = .rollingBack then answers (s.answered .refused q [5])
    else if s.controller = .active then answers (s.answered .refused q [3])
    else if s.drain ≠ none then answers (s.answered .refused q [5])
    else if s.hold ≠ .run then answers (s.answered .refused q [6])
    else
      ∀ g : Ring, s.ring = some g →
        if s.freeOf g < g.owed + 2 then answers (s.answered .refused q [4])
        else
          ∀ n : Word, s.nextEpoch = some n →
            let opened : EpochRecord :=
              { number := n, origin := .host, openSlot := none, undoCount := 0, filterless := 0, failed := 0,
                openedAt := s.timebase }
            let t : State :=
              { s with
                nextEpoch := some (if n = 0xFFFFFFFF#32 then 1 else n + 1), controller := .active,
                autoTimer := if s.settings.autoCommitMs = 0 then none else some (1000 * s.settings.autoCommitMs.toNat) }
            let deferred : Bool :=
              match s.closing with
              | some c => c.stage = .capturing ∧ c.closeSlot = none
              | none => false
            if deferred then
              answers (settle ({ t with active := some opened, ring := some { g with owed := g.owed + 2 } }.answered
                .done q [n, 1]))
            else
              let allocated : State :=
                { t with
                  active := some { opened with openSlot := some ⟨g.head, g.nextSeq⟩ },
                  openWrites := s.openWrites ++ [{ epoch := n, origin := .host, slot := ⟨g.head, g.nextSeq⟩ }],
                  ring := some
                    { g with
                      head := nextPosition s.slotsInUse g.head, nextSeq := g.nextSeq + 1,
                      occupancy := g.occupancy + 1, unacked := g.unacked ++ [g.nextSeq], owed := g.owed + 1 },
                  latched :=
                    if s.settings.lowSpaceSlots.toNat ≤ s.freeOf g ∧ s.freeOf g - 1 < s.settings.lowSpaceSlots.toNat
                    then s.latched ||| 0x04#6 else s.latched }
              answers (settle (allocated.answered .done q [n, 0]))

/-- COMMIT_EPOCH: the tests of R71 in their order; the acceptance makes the ACTIVE record the closing record, moves
the controller to IDLE, empties the Granule Filter, fails a space waiter of the epoch, and answers with the record's
counts (R72). What a change enables follows in its event, in the order that is the model's choice (`settle`, log entry
4). -/
def Obligations.CommitEpochStartsTheCloser : Prop :=
  ∀ (q : Byte) (s : State), s.rstHeld = false →
    let answers (t : State) : Prop := exec (.commitEpoch { sequence := q, args := [] }) s = .next t
    if s.controller = .unmounted ∨ s.controller = .mounting then answers (s.answered .refused q [1])
    else if s.controller = .faulted then answers (s.answered .refused q [5])
    else if s.drain ≠ none then answers (s.answered .refused q [5])
    else if s.hold ≠ .run ∧ s.modeInForce = .freeze then answers (s.answered .refused q [6])
    else if s.closing ≠ none then answers (s.answered .busy q [])
    else if s.controller = .idle then answers (s.answered .refused q [2])
    else if s.controller = .rollingBack then answers (s.answered .refused q [5])
    else
      ∀ a : EpochRecord, s.active = some a →
        let t : State :=
          { s with
            closing := some { record := a, trigger := .host, stage := .capturing, closeSlot := none }, active := none,
            controller := .idle, filter := [], autoTimer := none, pendingAuto := false }
        ((∀ w c, s.spaceWaiter = some w → s.waitingRecord = some c → w.epoch ≠ a.number) →
          answers (settle (t.answered .started q
            [a.number, BitVec.ofNat 32 a.undoCount, BitVec.ofNat 32 a.filterless, BitVec.ofNat 32 a.failed]))) ∧
        (∀ (w : SpaceWaiter) (c : CaptureRecord), s.spaceWaiter = some w → s.waitingRecord = some c →
          w.epoch = a.number →
          (∃ k,
          ((c.entry :: c.covered).Nodup →
            (∀ p ∈ c.entry :: c.covered, ∀ e, s.entryAt p = some e → e.epoch = some a.number) →
            k = ((c.entry :: c.covered).filterMap s.entryAt).length) ∧
          (failForSpace c t).closing =
            some { record := { a with failed := a.failed + k }, trigger := .host, stage := .capturing,
                   closeSlot := none } ∧
          answers (settle ((failForSpace c t).answered .started q
            [a.number, BitVec.ofNat 32 a.undoCount, BitVec.ofNat 32 a.filterless, BitVec.ofNat 32 (a.failed + k)]))))

/-- ABORT_EPOCH: the tests of R86 in their order, and the acceptance of an epoch whose OPEN is allocated (R87, R57)
and of one whose OPEN is deferred, which is complete at once (R88). The ABORTED responses of the entries withdrawn
come in the acceptance order, which is the model's choice (log entry 6). What a change enables follows in its event,
in the order that is the model's choice (`settle`, log entry 4). -/
def Obligations.AbortEpochEndsTheActiveEpoch : Prop :=
  ∀ (q : Byte) (s : State), s.rstHeld = false →
    let answers (t : State) : Prop := exec (.abortEpoch { sequence := q, args := [] }) s = .next t
    if s.controller = .unmounted ∨ s.controller = .mounting then answers (s.answered .refused q [1])
    else if s.controller = .faulted then answers (s.answered .refused q [5])
    else if s.drain ≠ none then answers (s.answered .refused q [5])
    else if s.hold ≠ .run then answers (s.answered .refused q [6])
    else if s.controller = .rollingBack then answers (s.answered .busy q [])
    else if s.controller = .idle then answers (s.answered .refused q [2])
    else
      ∀ a : EpochRecord, s.active = some a →
        let t : State :=
          { s with
            active := none, filter := [], autoTimer := none, pendingAuto := false,
            captureOrder := s.captureOrder.filter (fun c => c.epoch ≠ a.number),
            spaceWaiter := s.spaceWaiter.filter (fun w => w.epoch ≠ a.number),
            captures := s.captures.map (fun c =>
              match s.entryAt c.entry with
              | some e => if e.epoch = some a.number then { c with mark := .abort } else c
              | none => c) }
        (∀ o, a.openSlot = some o →
          answers (settle ((withdrawAll
            (s.writeQueue.filter (fun e => e.epoch = some a.number ∧
              (e.stage = .queued ∨ e.stage = .spaceWait ∨ e.stage = .ready)))
            { t with
              controller := .rollingBack,
              rollback := some
                { epoch := a.number, undoCount := a.undoCount, abortPoint := s.nextPlace, phase := .settling,
                  cursor := none, step := none, contents := none, restored := 0, abandonSlot := none } }).answered
            .started q [a.number, BitVec.ofNat 32 a.undoCount, 0]))) ∧
        (a.openSlot = none →
          answers (settle ((addCompletion
            { op := .abort, trigger := .host, epoch := some a.number, outcome := .rolledBack, countA := 0, countB := 0,
              discarded := 0 }
            (withdrawAll (s.writeQueue.filter (fun e => e.epoch = some a.number ∧ e.stage ≠ .issued))
              { t with controller := .idle, ring := s.ring.map (fun g => { g with owed := g.owed - 2 }) })).answered
            .started q [a.number, BitVec.ofNat 32 a.undoCount, 1])))

/-- An entry that is withdrawn leaves the Write Queue with its tag request, a WAITED one answered ABORTED (R35); one
that fails leaves likewise, a WAITED one answered with the status, a POSTED one with its incident, and the failed
entries of its ACTIVE or closing epoch rise by 1 (R32, R34). -/
def Obligations.EntriesLeaveWithdrawnOrFailed : Prop :=
  (∀ (es : List WriteEntry) (s : State),
    withdrawAll es s =
      { s with
        writeQueue := s.writeQueue.filter (fun e => e.place ∉ es.map (·.place)),
        ops := s.ops.filter (fun o => ¬(o.phase = .waiting ∧ ∃ e ∈ es, o.requester = .entry e.place)),
        responses := s.responses ++
          (es.filter (fun e => e.ack = .waited)).map (fun e => { tag := e.tag, status := .aborted, data := [] }) }) ∧
  (∀ (e : WriteEntry) (status : Status) (kind : IncidentKind) (s : State), s.incidents.length < 16 →
    failEntry e status kind s =
      { s with
        writeQueue := s.writeQueue.filter (fun x => x.place ≠ e.place),
        ops := s.ops.filter (fun o => ¬(o.phase = .waiting ∧ o.requester = .entry e.place)),
        responses :=
          if e.ack = .waited then s.responses ++ [{ tag := e.tag, status := status, data := [] }] else s.responses,
        incidents :=
          if e.ack = .waited then s.incidents
          else s.incidents ++
            [{ kind := kind, address := some (e.granule + BitVec.ofNat 32 (8 * e.firstBeat)),
               initiator := some e.initiator, tag := some e.tag, epoch := e.epoch, sequence := none }],
        latched := if e.ack = .waited then s.latched else s.latched ||| 0x08#6,
        active := s.active.map (fun a => if e.epoch = some a.number then { a with failed := a.failed + 1 } else a),
        closing := s.closing.map (fun c =>
          if e.epoch = some c.record.number then { c with record := { c.record with failed := c.record.failed + 1 } }
          else c) })

/-- FORMAT_JOURNAL and RECOVER_JOURNAL: the tests of R105 in their order; in UNMOUNTED the mount starts with a new record
and copies the geometry, in FAULTED the request waits (R104, R106, R83). That the OPEN writes of an earlier journal go
with it is the model's choice (log entry 15). What a change enables follows in its event, in the order that is
the model's choice (`settle`, log entry 4). -/
def Obligations.FormatAndRecoverStartAMount : Prop :=
  ∀ (q : Byte) (seed : Word) (kind : MountKind) (s : State), s.rstHeld = false →
    let request : Instr :=
      match kind with
      | .format => .formatJournal { sequence := q, args := [seed] }
      | .recover => .recoverJournal { sequence := q, args := [] }
    let kept : Word := match kind with | .format => seed | .recover => 0
    let answers (t : State) : Prop := exec request s = .next t
    let base := s.settings.journalBase.toNat
    let slots := s.settings.journalSlots.toNat
    if s.controller = .mounting ∨ (s.controller = .faulted ∧ s.mountRequest ≠ none) then
      answers (s.answered .busy q [])
    else if s.controller = .idle ∨ s.controller = .active ∨ s.controller = .rollingBack then
      answers (s.answered .refused q [5])
    else if s.drain ≠ none then answers (s.answered .refused q [5])
    else if s.hold ≠ .run then answers (s.answered .refused q [6])
    else if ¬(1024 ≤ slots ∧ slots ≤ 262144 ∧ slots % 256 = 0 ∧ base % 65536 = 0 ∧ base + 64 * slots ≤ 2 ^ 32) then
      answers (s.answered .refused q [7])
    else if s.controller = .faulted then
      answers (settle ({ s with mountRequest := some { kind := kind, seed := kept } }.answered .started q []))
    else
      let m : Mount :=
        { kind := kind, trigger := .host, seed := kept, phase := .readingAnchors, findingA := .absent,
          findingB := .absent, chosen := none, scanCursor := none, scanned := 0, shape := .empty, lastClose := none,
          highest := none, scanHead := none, openEpoch := none, cursor := none, step := none, contents := none,
          restored := 0, abandonSlot := none, startPoint := s.nextPlace }
      let started : State :=
        { s with
          controller := .mounting, mount := some m,
          geometry := some { base := s.settings.journalBase, slots := slots }, ring := none, openWrites := [],
          claims := [], mountRequest := none, nextEpoch := none, lastCommitted := none,
          ops := s.ops.filter (fun o : Op =>
            !(o.isHeld && (o.kind == .slotWrite || o.kind == .anchorWrite || o.kind == .restoreWrite))) }
      answers (settle (started.answered .started q []))

/-! ### Resets -/

/-- RESET_PART: soft is answered BUSY under the conditions of R189 and otherwise begins the drain; the drained soft
reset, and force at once, clear every block as after reset but for what R191 keeps: settings, regions, QUARANTINED
tags, to which the tags of IN_FLIGHT operations are added, and the in-flight records that those keep; the hold state
follows PFW, and the DONE of the request is pending. A soft reset keeps the MCS# line and a transaction in progress
(DEDUCED, log entry 27); the mode in force without PFW, and the output records, the places given out and the timebase
are kept (log entries 2 and 16). What a change enables follows in its event, in the order that is the model's choice
(`settle`, log entry 4). -/
def Obligations.ResetPartClearsTheBlocks : Prop :=
  ∀ (q : Byte) (s : State), s.rstHeld = false →
    let flying := (s.ops.filter (·.flying)).filterMap (fun o => o.phase.tag?)
    let cleared (sequence : Byte) : State :=
      { State.reset with
        pending := s.pending, rstHeld := false, pfw := s.pfw, mcs := s.mcs, transaction := s.transaction, mdi := s.mdi,
        timebase := s.timebase, settings := s.settings, regions := s.regions, nextPlace := s.nextPlace,
        nextReady := s.nextReady, responses := s.responses, issues := s.issues,
        inFlight := (s.inFlight.filter (fun f => f.entry = none ∨ f.tag ∈ flying)).map
          (fun f => { f with entry := none }),
        quarantined := s.quarantined ++ flying,
        hold := if s.pfw then .holding else .run,
        modeInForce := if s.pfw then s.settings.holdMode else s.modeInForce,
        response := some (buildFrame Response.done.code sequence []) }
    let busy : Prop :=
      s.controller = .mounting ∨ s.controller = .rollingBack ∨ s.closing ≠ none ∨ s.drain ≠ none
    (busy → exec (.resetPartSoft { sequence := q, args := [0] }) s = .next (s.answered .busy q [])) ∧
    (¬busy →
      exec (.resetPartSoft { sequence := q, args := [0] }) s =
        .next (settle ({ s with drain := some q, mountRequest := none }.answered .started q []))) ∧
    exec (.resetPartForce { sequence := q, args := [1] }) s =
      .next (settle { cleared q with mcs := false, transaction := none }) ∧
    (∀ x : Word, 1 < x.toNat →
      exec (.resetPartSoft { sequence := q, args := [x] }) s = .next (s.answered .badArgument q []) ∧
      exec (.resetPartForce { sequence := q, args := [x] }) s = .next (s.answered .badArgument q [])) ∧
    (∀ sequence : Byte, s.drain = some sequence → s.writeQueue = [] → s.readTracker = [] →
      exec .softResetTakesPlace s = .next (settle (cleared sequence))) ∧
    ((s.drain = none ∨ s.writeQueue ≠ [] ∨ s.readTracker ≠ []) → exec .softResetTakesPlace s = .next s)

/-- Assertion of RST# clears every block as after power-up, the region table and the QUARANTINED tags with them; its
release takes the settings from the straps and the defaults, the hold state from PFW, and starts a recovery with
trigger AUTO, with a new record of the mount, where STRAP_AUTO_RECOVER is set and STRAP_JSIZE is not 0 (R102, R103,
R106, R149, R178, R192). While RST# is held no request of either port is taken (R148, R192). The model's choices:
while RST# is held the hold state is RUN, the mode in force is kept and the settings keep their values (log entries 2,
29 and 30), a release with RST# not held changes nothing by itself (log entry 21), a transaction begins at the release
wherever MCS# is asserted then, also one whose MCS# was asserted before RST# was (log entry 32), and the output
records, the places given out and the timebase run on (log entries 14 and 16). What a change enables follows in its
event, in the order that is the model's choice (`settle`, log entry 4). -/
def Obligations.HardwareResetAndItsRelease : Prop :=
  (∀ s : State,
    exec .rstAssert s = .next { State.reset with
      pending := s.pending, rstHeld := true, pfw := s.pfw, mcs := s.mcs, mdi := s.mdi, timebase := s.timebase,
      settings := s.settings, nextPlace := s.nextPlace, nextReady := s.nextReady, modeInForce := s.modeInForce,
      responses := s.responses, issues := s.issues }) ∧
  (∀ (st : Straps) (s : State), s.rstHeld = true →
    let t : State :=
      { s with
        rstHeld := false,
        settings :=
          { journalBase := match st.jbase with | 0 => 0 | 1 => 0x01000000 | 2 => 0x04000000 | 3 => 0x10000000,
            journalSlots := match st.jsize with | 0 => 0 | 1 => 4096 | 2 => 16384 | 3 => 65536,
            noEpochWrite := .refuse, fullWaitUs := 1000, lowSpaceSlots := 0, autoCommitMs := 0, retryLimit := 4,
            exhaustAction := .fail, dsTimeoutUs := 1000, holdMode := .drain, defaultClass := .plain, alertMask := 0 },
        hold := if s.pfw then .holding else .run, modeInForce := .drain,
        transaction := if s.mcs then some { frame := [0xA5000000#32], received := [], shifted := 0 } else none }
    ((st.autoRecover = false ∨ st.jsize = 0) → exec (.rstRelease st) s = .next (settle t)) ∧
    (st.autoRecover = true → st.jsize ≠ 0 →
      let m : Mount :=
        { kind := .recover, trigger := .auto, seed := 0, phase := .readingAnchors, findingA := .absent,
          findingB := .absent, chosen := none, scanCursor := none, scanned := 0, shape := .empty, lastClose := none,
          highest := none, scanHead := none, openEpoch := none, cursor := none, step := none, contents := none,
          restored := 0, abandonSlot := none, startPoint := s.nextPlace }
      exec (.rstRelease st) s = .next (settle { t with
        controller := .mounting, mount := some m,
        geometry := some { base := t.settings.journalBase, slots := t.settings.journalSlots.toNat }, ring := none,
        openWrites := [], claims := [], mountRequest := none, nextEpoch := none, lastCommitted := none,
        ops := s.ops.filter (fun o : Op =>
          !(o.isHeld && (o.kind == .slotWrite || o.kind == .anchorWrite || o.kind == .restoreWrite))) }))) ∧
  (∀ (st : Straps) (s : State), s.rstHeld = false → exec (.rstRelease st) s = .next (settle s)) ∧
  (∀ s : State, s.rstHeld = true →
    (∀ r, exec (.writeRequest r) s = .next s) ∧ (∀ r, exec (.readRequest r) s = .next s) ∧
    (∀ (r : LinkRequest) (code : Byte) (bits : List Bool),
      ∀ c ∈ ([.nop r, .readStatus r, .beginEpoch r, .commitEpoch r, .abortEpoch r, .formatJournal r, .recoverJournal r,
          .setParam r, .getParam r, .writeRegion r, .readRegion r, .readAlerts r, .clearAlerts r, .popIncident r,
          .popCompletion r, .resetPartSoft r, .resetPartForce r, .frameError bits, .unknownCommand code r] :
            List Instr),
        exec c s = .next { s with mcs := false, transaction := none }))

/-! ### The link's own answers -/

/-- A request whose argument count the table of R181 does not give is answered BAD_ARGUMENT before any test of state,
a code that the table lacks UNKNOWN_COMMAND (R184), and bits that form no frame FRAME_ERROR with the sequence of word
0 or 0 (R182); no state changes but for the link's own. A request frame is taken as the command its code names in the
table of R181. That the rows FRAME_ERROR and UNKNOWN_COMMAND, and either row of RESET_PART, with operands that belong to
another row, act as that row, is the model's choice (log entry 22). At the assertion of MCS# the frame to shift out is fixed: the pending response, or the empty-response
frame, whose one word is A5000000; MDO carries the frame's bits in order and zeros after them (R179). While RST# is
held the line is noted, and the transaction begins at the release of RST# (R192, log entry 14). -/
def Obligations.LinkJudgesFramesAndFixesItsOwn : Prop :=
  (∀ s : State, s.rstHeld = false →
     (∀ (bits : List Bool) (echo : Byte), judgeFrame bits = .error echo →
       exec (.frameError bits) s = .next (s.answered .frameError echo [])) ∧
     (∀ bits : List Bool, bits.length < 32 → judgeFrame bits = .error 0) ∧
     (∀ (bits : List Bool) (w : Word) (rest : List Word), wordsOfBits (bits.length / 32) bits = w :: rest →
       let n := (w.extractLsb' 16 8).toNat
       (bits.length % 32 ≠ 0 ∨ 6 < n ∨ rest.length < n ∨ validFrame (w :: rest.take n) = false) →
       judgeFrame bits = .error (w.extractLsb' 8 8)) ∧
     (∀ (code : Byte) (r : LinkRequest),
       code.toNat ∉ [0x01, 0x02, 0x10, 0x11, 0x12, 0x20, 0x21, 0x30, 0x31, 0x38, 0x39, 0x40, 0x41, 0x42, 0x43, 0x50] →
       exec (.unknownCommand code r) s = .next (s.answered .unknownCommand r.sequence [])) ∧
     (∀ r : LinkRequest,
       let bad (c : LinkRequest → Instr) : Prop := exec (c r) s = .next (s.answered .badArgument r.sequence [])
       let n := r.args.length
       (n ≠ 0 → bad .nop ∧ bad .readStatus ∧ bad .beginEpoch ∧ bad .commitEpoch ∧ bad .abortEpoch ∧
         bad .recoverJournal ∧ bad .readAlerts ∧ bad .popIncident ∧ bad .popCompletion) ∧
       (n ≠ 1 → bad .formatJournal ∧ bad .getParam ∧ bad .readRegion ∧ bad .clearAlerts ∧ bad .resetPartSoft ∧
         bad .resetPartForce) ∧
       (n ≠ 2 → bad .setParam) ∧
       (n ≠ 1 → n ≠ 6 → bad .writeRegion)) ∧
     (∀ (bits : List Bool) (f : RequestFrame), judgeFrame bits = .ok f →
       exec (.frameError bits) s = exec (.unknownCommand f.code { sequence := f.sequence, args := f.args }) s) ∧
     (∀ r : LinkRequest,
       let named (code : Byte) (c : Instr) : Prop := exec (.unknownCommand code r) s = exec c s
       named 0x01 (.nop r) ∧ named 0x02 (.readStatus r) ∧ named 0x10 (.beginEpoch r) ∧ named 0x11 (.commitEpoch r) ∧
       named 0x12 (.abortEpoch r) ∧ named 0x20 (.formatJournal r) ∧ named 0x21 (.recoverJournal r) ∧
       named 0x30 (.setParam r) ∧ named 0x31 (.getParam r) ∧ named 0x38 (.writeRegion r) ∧
       named 0x39 (.readRegion r) ∧ named 0x40 (.readAlerts r) ∧ named 0x41 (.clearAlerts r) ∧
       named 0x42 (.popIncident r) ∧ named 0x43 (.popCompletion r) ∧ named 0x50 (.resetPartSoft r) ∧
       named 0x50 (.resetPartForce r))) ∧
  (∀ s : State,
     (s.mcs = false → s.rstHeld = false →
       exec .mcsAsserted s = .next { s with
         mcs := true,
         transaction := some
           { frame := (match s.response with | some f => f | none => [0xA5000000#32]), received := [], shifted := 0 } }) ∧
     (s.mcs = false → s.rstHeld = true → exec .mcsAsserted s = .next { s with mcs := true }) ∧
     (s.mcs = true → exec .mcsAsserted s = .next s)) ∧
  (∀ (t : Transaction) (k : Nat),
     t.mdoBit k = match t.frame[k / 32]? with | some w => w.getLsbD (k % 32) | none => false)

/-! ### The upstream port -/

/-- The matching entry of the lowest index classifies an address, and DEFAULT_CLASS where none matches (R122 to R124);
the journal area runs from JOURNAL_BASE over 64 × JOURNAL_SLOTS bytes where the geometry is valid, to the top of the
address space where it is not, and is empty with JOURNAL_SLOTS 0 (R1). -/
def Obligations.AddressesAreClassified : Prop :=
  ∀ (a : Word) (s : State),
    let matching (i : Nat) (r : Region) : Prop :=
      s.regions[i]? = some (some r) ∧ r.base.toNat ≤ a.toNat ∧ a.toNat ≤ r.base.toNat + 2 ^ r.exponent - 1
    (∀ (i : Nat) (r : Region), matching i r → (∀ j < i, ∀ q, ¬matching j q) →
      s.classify a =
        { index := some i, cls := r.cls, writeMask := r.writeMask, exemptMask := r.exemptMask, ack := r.ack }) ∧
    ((∀ i r, ¬matching i r) →
      s.classify a =
        { index := none, cls := (match s.settings.defaultClass with | .plain => .plain | .hole => .hole),
          writeMask := 0xFF#8, exemptMask := 0x00#8, ack := .posted }) ∧
    let base := s.settings.journalBase.toNat
    let slots := s.settings.journalSlots.toNat
    (s.protects a = true ↔
      slots ≠ 0 ∧ base ≤ a.toNat ∧
        ((1024 ≤ slots ∧ slots ≤ 262144 ∧ slots % 256 = 0 ∧ base % 65536 = 0 ∧ base + 64 * slots ≤ 2 ^ 32) →
          a.toNat < base + 64 * slots))

/-- WRITE_REQUEST: the checks of R140 in their order, the first that applies deciding the outcome. An auto-open wants
two slots free beside M, takes the next epoch number with origin AUTO, latches AUTO_EPOCH, and allocates its OPEN at
head with M plus 1, or defers it with M plus 2 while the CLOSE is owed (R68, R70). What a change enables follows in
its event, in the order that is the model's choice (`settle`, log entry 4). -/
def Obligations.WriteRequestsAreAdmitted : Prop :=
  ∀ (r : WriteRequest) (s : State), s.rstHeld = false →
    let malformed : Prop :=
      r.address.toNat % 8 ≠ 0 ∨ r.beats < 1 ∨ 4 < r.beats ∨ 4 < r.address.toNat % 32 / 8 + r.beats ∨
        r.data.length ≠ r.beats ∨ r.masks.length ≠ r.beats ∨ (∃ q ∈ s.readTracker, q.tag = r.tag) ∨
        ∃ e ∈ s.writeQueue, e.tag = r.tag ∧ e.ack = .waited
    let c := s.classify r.address
    let becomes (t : State) : Prop := exec (.writeRequest r) s = .next t
    let answered (status : Status) : Prop := becomes (s.told r.tag status [])
    let protect (kind : IncidentKind) : Prop :=
      becomes (addIncident
        { kind := kind, address := some r.address, initiator := some r.initiator, tag := some r.tag, epoch := none,
          sequence := none } (s.told r.tag .protect []))
    let queued (cls : EntryClass) : Prop :=
      if 32 ≤ s.writeQueue.length then answered .retry else becomes (settle (acceptWrite r cls c.ack s))
    let autoOpened (g : Ring) (n : Word) : State :=
      let record : EpochRecord :=
        { number := n, origin := .auto, openSlot := none, undoCount := 0, filterless := 0, failed := 0,
          openedAt := s.timebase }
      let t : State :=
        { s with
          nextEpoch := some (if n = 0xFFFFFFFF#32 then 1 else n + 1), controller := .active,
          autoTimer := if s.settings.autoCommitMs = 0 then none else some (1000 * s.settings.autoCommitMs.toNat) }
      let deferred : Bool :=
        match s.closing with
        | some k => k.stage = .capturing ∧ k.closeSlot = none
        | none => false
      if deferred then
        { t with
          active := some record, ring := some { g with owed := g.owed + 2 }, latched := s.latched ||| 0x20#6 }
      else
        { t with
          active := some { record with openSlot := some ⟨g.head, g.nextSeq⟩ },
          openWrites := s.openWrites ++ [{ epoch := n, origin := .auto, slot := ⟨g.head, g.nextSeq⟩ }],
          ring := some
            { g with
              head := nextPosition s.slotsInUse g.head, nextSeq := g.nextSeq + 1, occupancy := g.occupancy + 1,
              unacked := g.unacked ++ [g.nextSeq], owed := g.owed + 1 },
          latched :=
            (if s.settings.lowSpaceSlots.toNat ≤ s.freeOf g ∧ s.freeOf g - 1 < s.settings.lowSpaceSlots.toNat
             then s.latched ||| 0x04#6 else s.latched) ||| 0x20#6 }
    let journaled : Prop :=
      match s.controller, s.settings.noEpochWrite with
      | .unmounted, _ => answered .noJournal
      | .faulted, _ => answered .noJournal
      | .active, _ => queued .journaled
      | .idle, .pass => queued .exempt
      | .idle, .refuse => answered .noJournal
      | .idle, .autoOpen =>
        (32 ≤ s.writeQueue.length → answered .retry) ∧
        (s.writeQueue.length < 32 → ∀ g : Ring, s.ring = some g →
          (s.freeOf g < g.owed + 2 → answered .journalFull) ∧
          (g.owed + 2 ≤ s.freeOf g → ∀ n : Word, s.nextEpoch = some n →
            becomes (settle (acceptWrite r .journaled c.ack (autoOpened g n)))))
      | _, _ => False
    (malformed → answered .malformed) ∧
    (¬malformed → s.hold ≠ .run ∨ s.drain ≠ none → answered .retry) ∧
    (¬malformed → s.hold = .run → s.drain = none →
      if s.protects r.address then protect .journalAreaAccess
      else if c.cls = .hole then answered .ok
      else if c.writeMask.getLsbD r.initiator.val = false then protect .writeProtected
      else if c.cls = .plain then queued .plain
      else if s.controller = .mounting ∨ s.controller = .rollingBack then answered .retry
      else if c.exemptMask.getLsbD r.initiator.val then queued .exempt
      else journaled)

/-- The entry an accepted write makes, and what the Granule Filter makes of a JOURNALED one (R25, R45, R50): a miss
makes a capture record, and a filter record while there is room; a hit is COVERED by the sequence its record holds, or
joins the covered list of the capture record linked. A POSTED write is answered OK in the event (R131). -/
def Obligations.AcceptedWritesEnterTheQueue : Prop :=
  ∀ (r : WriteRequest) (ack : AckMode) (s : State),
    let granule : Word := r.address - BitVec.ofNat 32 (r.address.toNat % 32)
    let entry (cls : EntryClass) : WriteEntry :=
      { place := s.nextPlace, tag := r.tag, initiator := r.initiator, granule := granule,
        firstBeat := r.address.toNat % 32 / 8, beats := r.beats, masks := r.masks, data := r.data, ack := ack,
        cls := cls, relation := .none, epoch := none, slotSeq := none, stage := .ready }
    let joined (e : WriteEntry) : State :=
      { s with
        writeQueue := s.writeQueue ++ [e], nextPlace := s.nextPlace + 1,
        responses :=
          if ack = .posted then s.responses ++ [{ tag := r.tag, status := .ok, data := [] }] else s.responses }
    acceptWrite r .plain ack s = joined (entry .plain) ∧
    acceptWrite r .exempt ack s = joined (entry .exempt) ∧
    ∀ a : EpochRecord, s.active = some a →
      let mine : WriteEntry := { entry .journaled with epoch := some a.number }
      ((∀ f ∈ s.filter, f.granule ≠ granule) →
        let t := joined { mine with relation := .capture, stage := .queued }
        acceptWrite r .journaled ack s =
          { t with
            captureOrder := s.captureOrder ++
              [{ entry := s.nextPlace, granule := granule, epoch := a.number,
                 filterless := decide (1024 ≤ s.filter.length), covered := [] }],
            filter :=
              if 1024 ≤ s.filter.length then s.filter
              else s.filter ++ [{ granule := granule, covering := none, link := some s.nextPlace }] }) ∧
      (∀ (before after : List FilterRecord) (f : FilterRecord), s.filter = before ++ f :: after →
        f.granule = granule → (∀ x ∈ before, x.granule ≠ granule) →
        let t := joined { mine with relation := .covered, slotSeq := f.covering }
        acceptWrite r .journaled ack s =
          if f.covering = none then
            { t with captureOrder := s.captureOrder.map (fun c =>
                if some c.entry = f.link then { c with covered := c.covered ++ [s.nextPlace] } else c) }
          else t)

/-- READ_REQUEST: the checks of R141 in their order; an accepted read enters the Read Tracker in HAZARD_WAIT (R37).
What a change enables follows in its event, in the order that is the model's choice (`settle`, log entry 4). -/
def Obligations.ReadRequestsAreAdmitted : Prop :=
  ∀ (r : ReadRequest) (s : State), s.rstHeld = false →
    let malformed : Prop :=
      r.address.toNat % 8 ≠ 0 ∨ r.beats < 1 ∨ 4 < r.beats ∨ 4 < r.address.toNat % 32 / 8 + r.beats ∨
        r.data ≠ [] ∨ r.masks ≠ [] ∨ (∃ q ∈ s.readTracker, q.tag = r.tag) ∨
        ∃ e ∈ s.writeQueue, e.tag = r.tag ∧ e.ack = .waited
    let c := s.classify r.address
    let becomes (t : State) : Prop := exec (.readRequest r) s = .next t
    (malformed → becomes (s.told r.tag .malformed [])) ∧
    (¬malformed → s.hold ≠ .run ∨ s.drain ≠ none → becomes (s.told r.tag .retry [])) ∧
    (¬malformed → s.hold = .run → s.drain = none →
      if s.protects r.address then
        becomes (addIncident
          { kind := .journalAreaAccess, address := some r.address, initiator := some r.initiator, tag := some r.tag,
            epoch := none, sequence := none } (s.told r.tag .protect []))
      else if c.cls = .hole then becomes (s.told r.tag .ok (List.replicate r.beats 0xFFFFFFFFFFFFFFFF#64))
      else if c.cls = .journaled ∧ (s.controller = .mounting ∨ s.controller = .rollingBack) then
        becomes (s.told r.tag .retry [])
      else if 8 ≤ s.readTracker.length then becomes (s.told r.tag .retry [])
      else
        becomes (settle { s with
          readTracker := s.readTracker ++
            [{ place := s.nextPlace, tag := r.tag, initiator := r.initiator, address := r.address, beats := r.beats,
               stage := .hazardWait }],
          nextPlace := s.nextPlace + 1 }))

/-! ### Power-fail hold -/

/-- Assertion of PFW in RUN begins a hold, fixes its mode and cancels the tag requests that the hold forbids (R172,
R41, R60, R69, R78, R99, R119); its release ends the hold (R177). The hold state becomes SAFE, and SAFE is latched,
exactly when the part is HOLDING and quiet: no operation is in flight and, in drain mode, the Write Queue is empty, no
OPEN slot write has a record and the closer is NONE (R174, R175). The SAFE output shows it. That an edge of PFW while
RST# is held changes only the line, with the hold state RUN until the release of RST#, is the model's choice, on which
R172 and R178 are silent (DESIGN CHOICE, log entry 29). What a change enables follows in its event, in the order that
is the model's choice (`settle`, log entry 4). -/
def Obligations.PowerFailWarningBringsThePartToRest : Prop :=
  (∀ s : State,
     (s.rstHeld = false → s.hold = .run →
       exec .pfwAssert s = .next (settle { s with
         pfw := true, hold := .holding, modeInForce := s.settings.holdMode,
         ops := s.ops.filter (fun o =>
           decide (o.phase ≠ .waiting) ||
             (decide (s.settings.holdMode = .drain) &&
               match o.requester with
               | .rollback => false
               | .mount => false
               | .mountAnchor _ => false
               | .anchor w => decide (w.claimant = .closer)
               | _ => true)) })) ∧
     ((s.rstHeld = true ∨ s.hold ≠ .run) → exec .pfwAssert s = .next (settle { s with pfw := true })) ∧
     exec .pfwRelease s = .next (settle { s with pfw := false, hold := .run })) ∧
  (∀ s : State,
     let quiet : Prop :=
       (∀ o ∈ s.ops, ∀ t n, o.phase ≠ .inFlight t n) ∧
       (s.modeInForce = .drain →
         s.writeQueue = [] ∧ s.closing = none ∧ ∀ o ∈ s.ops, ∀ e q, o.requester ≠ .openSlot e q)
     (s.hold = .holding → quiet →
       exec .enterSafe s = .next (settle { s with hold := .safe, latched := s.latched ||| 0x10#6 })) ∧
     (s.hold ≠ .holding ∨ ¬quiet → exec .enterSafe s = .next s) ∧
     (s.safeLine = true ↔ s.hold = .safe ∧ s.rstHeld = false))

/-! ### Timers -/

/-- When the wait of a space waiter ends, the capturing entry and the entries on its covered list fail JOURNAL_FULL in
order, each as R34 says: WAITED ones answered, POSTED ones with their incidents; the capture record and its filter
record go (R13, R56). What a change enables follows in its event, in the order that is the model's choice (`settle`,
log entry 4). The model takes the row as the expiry of whatever timer runs (log entry 12). -/
def Obligations.SpaceWaitExpiryFailsTheCapture : Prop :=
  ∀ (w : SpaceWaiter) (c : CaptureRecord) (n : Nat) (s : State),
    s.spaceWaiter = some w → w.timer = some n → s.waitingRecord = some c → (c.entry :: c.covered).Nodup →
    (∀ p ∈ c.entry :: c.covered, ∀ e, s.entryAt p = some e → e.epoch = some c.epoch) →
      let failing := (c.entry :: c.covered).filterMap s.entryAt
      let posted := failing.filter (fun e => e.ack = .posted)
      let room := 16 - s.incidents.length
      let t := failForSpace c s
      exec .spaceWaitExpiry s = .next (settle t) ∧
      t.spaceWaiter = none ∧
      t.captureOrder = s.captureOrder.filter (fun x => x.entry ≠ c.entry) ∧
      t.filter = s.filter.filter (fun f => f.link ≠ some c.entry) ∧
      t.writeQueue = s.writeQueue.filter (fun e => e.place ∉ c.entry :: c.covered) ∧
      t.responses = s.responses ++
        (failing.filter (fun e => e.ack = .waited)).map
          (fun e => { tag := e.tag, status := .journalFull, data := [] }) ∧
      t.incidents = s.incidents ++
        (posted.map (fun e =>
          { kind := .postedWriteNoSpace, address := some (e.granule + BitVec.ofNat 32 (8 * e.firstBeat)),
            initiator := some e.initiator, tag := some e.tag, epoch := some c.epoch, sequence := none })).take room ∧
      t.active = s.active.map (fun a =>
        if a.number = c.epoch then { a with failed := a.failed + failing.length } else a) ∧
      t.ring = s.ring ∧ t.captures = s.captures ∧ t.inFlight = s.inFlight ∧ t.readTracker = s.readTracker

/-- The auto-commit timer's expiry commits the epoch at once where nothing is in the way, and otherwise is held
pending until nothing is: the closer NONE, the hold state RUN and no drain under way (R80). What a change enables
follows in its event, in the order that is the model's choice (`settle`, log entry 4). A space waiter of the epoch
fails in that event, its entry and those covered by it, each counted in the closing record (R72, R13, R34, R56). The
model takes the row as the expiry of whatever timer runs (log entry 12). -/
def Obligations.AutoCommitIsTakenOrHeldPending : Prop :=
  ∀ (a : EpochRecord) (s : State), s.active = some a → s.controller = .active →
    let clear : Prop := s.closing = none ∧ s.hold = .run ∧ s.drain = none
    let taken : State :=
      { s with
        closing := some { record := a, trigger := .auto, stage := .capturing, closeSlot := none }, active := none,
        controller := .idle, filter := [], autoTimer := none, pendingAuto := false }
    let commits (x : State) : Prop :=
      let t : State := { x with latched := x.latched ||| 0x20#6 }
      (s.autoTimer ≠ none → clear → exec .autoCommitExpiry s = .next (settle t)) ∧
      (s.pendingAuto = true → clear → exec .pendingAutoCommitTaken s = .next (settle t))
    ((∀ w c, s.spaceWaiter = some w → s.waitingRecord = some c → w.epoch ≠ a.number) → commits taken) ∧
    (∀ (w : SpaceWaiter) (c : CaptureRecord), s.spaceWaiter = some w → s.waitingRecord = some c →
      w.epoch = a.number →
      let failing := (c.entry :: c.covered).filterMap s.entryAt
      let posted := failing.filter (fun e => e.ack = .posted)
      let room := 16 - s.incidents.length
      let x := failForSpace c taken
      commits x ∧ x.spaceWaiter = none ∧ x.filter = [] ∧
      x.captureOrder = s.captureOrder.filter (fun r => r.entry ≠ c.entry) ∧
      ((c.entry :: c.covered).Nodup →
        (∀ p ∈ c.entry :: c.covered, ∀ e, s.entryAt p = some e → e.epoch = some a.number) →
        x.closing =
          some { record := { a with failed := a.failed + failing.length }, trigger := .auto, stage := .capturing,
                 closeSlot := none } ∧
        x.active = none ∧ x.controller = .idle ∧
        x.writeQueue = s.writeQueue.filter (fun e => e.place ∉ c.entry :: c.covered) ∧
        x.responses = s.responses ++
          (failing.filter (fun e => e.ack = .waited)).map
            (fun e => { tag := e.tag, status := .journalFull, data := [] }) ∧
        x.incidents = s.incidents ++
          (posted.map (fun e =>
            { kind := .postedWriteNoSpace, address := some (e.granule + BitVec.ofNat 32 (8 * e.firstBeat)),
              initiator := some e.initiator, tag := some e.tag, epoch := some a.number,
              sequence := none })).take room)) ∧
    (s.autoTimer ≠ none → ¬clear →
      exec .autoCommitExpiry s = .next (settle { s with autoTimer := none, pendingAuto := true })) ∧
    (s.pendingAuto = false ∨ ¬clear → exec .pendingAutoCommitTaken s = .next s)

/-! ### The downstream port -/

/-- A request for a tag makes a record in WAITING, which is granted the lowest-numbered FREE tag in the same event
where no record waits already; a grant issues the operation, with the contents fixed at the request, and starts its
timer (R144, R145, R155). A freed tag is granted to the WAITING record of the lowest arbiter class, and within the
class of the earliest ready order, among those whose requester may issue: any in RUN, in a drain hold all but the
Rollback Engine, the Mount Engine and their anchor claims, in a freeze hold none (R145, R143, R144, R152). The timeout
value of a record not issued yet is the model's choice (log entry 28). What a change enables follows in its event, in
the order that is the model's choice (`settle`, log entry 4). -/
def Obligations.TagsAreGrantedInTheArbitersOrder : Prop :=
  (∀ (kind : OpKind) (who : Requester) (address : Word) (beats : Nat) (masks : List Byte) (data : List Beat) (s : State),
     let o : Op :=
       { ready := s.nextReady, kind := kind, requester := who, address := address, beats := beats, masks := masks,
         data := data, phase := .waiting, retries := 0, persisting := false, timeout := none }
     let t : State := { s with ops := s.ops ++ [o], nextReady := s.nextReady + 1 }
     let free (x : DownTag) : Prop := x ∉ s.quarantined ∧ ∀ p ∈ s.ops, p.phase.tag? ≠ some x
     ((∃ p ∈ s.ops, p.phase = .waiting) → request kind who address beats masks data s = t) ∧
     ((∀ x, ¬free x) → request kind who address beats masks data s = t) ∧
     (∀ x : DownTag, (∀ p ∈ s.ops, p.phase ≠ .waiting ∧ p.ready ≠ s.nextReady) → free x → (∀ y < x, ¬free y) →
       request kind who address beats masks data s = grant o x t ∧
       let sent : State :=
         { s with
           ops := s.ops ++
             [{ o with phase := .inFlight x s.settings.dsTimeoutUs.toNat, timeout := some s.settings.dsTimeoutUs }],
           nextReady := s.nextReady + 1,
           hold := if s.hold = .safe then .holding else s.hold,
           issues := s.issues ++
             [{ tag := x, kind := kind, address := address, beats := beats, masks := masks, data := data }] }
       match who with
       | .entry p =>
         ∀ e, s.entryAt p = some e →
           grant o x t = { sent with
             writeQueue := s.writeQueue.map (fun e => if e.place = p then { e with stage := .issued } else e),
             inFlight := s.inFlight ++ [{ granule := e.granule, tag := x, entry := some p }] }
       | .read p =>
         grant o x t = { sent with
           readTracker := s.readTracker.map (fun r => if r.place = p then { r with stage := .issued } else r) }
       | .closer => grant o x t = { sent with closing := s.closing.map (fun c => { c with stage := .marking }) }
       | _ => grant o x t = sent)) ∧
  (∀ s : State,
     let class_ (o : Op) : Nat :=
       match o.kind with
       | .slotWrite => 1 | .anchorWrite => 1 | .undoRead => 2 | .slotRead => 3 | .restoreWrite => 3 | .anchorRead => 3
       | .dataWrite => 4 | .dataRead => 5
     let may (who : Requester) : Prop :=
       s.hold = .run ∨
         (s.modeInForce = .drain ∧
           match who with
           | .entry _ => True | .read _ => True | .capture _ => True | .openSlot _ _ => True | .closer => True
           | .orphan _ => True
           | .rollback => False | .mount => False | .mountAnchor _ => False
           | .anchor w => w.claimant = .closer)
     let waits (o : Op) : Prop := o ∈ s.ops ∧ o.phase = .waiting ∧ may o.requester
     let free (x : DownTag) : Prop := x ∉ s.quarantined ∧ ∀ p ∈ s.ops, p.phase.tag? ≠ some x
     (∀ (o : Op) (x : DownTag), waits o →
       (∀ p, waits p → p ≠ o → class_ o < class_ p ∨ (class_ o = class_ p ∧ o.ready < p.ready)) →
       free x → (∀ y < x, ¬free y) → exec .tagGrant s = .next (settle (grant o x s))) ∧
     ((∀ o, ¬waits o) ∨ (∀ x, ¬free x) → exec .tagGrant s = .next s))

/-- BUSY makes a record HELD with its tag while its retry count is below RETRY_LIMIT or it persists; at the limit
EXHAUST_ACTION decides between a final failure and persisting with an incident (R151, R154). A HELD record is reissued
where the table of R152 allows its requester: any in RUN; in a drain hold all but the Rollback Engine, the Mount
Engine and their anchor claims; in a freeze hold none. The reissue goes under its tag with the contents of its record,
its retry count one higher and its timer started afresh (R153, R155). What a change enables follows in its event, in
the order that is the model's choice (`settle`, log entry 4); that the start of a waiting mount may be among it is the
model's choice (log entry 31). -/
def Obligations.BusyAnswersAreHeldAndReissued : Prop :=
  ∀ (t : DownTag) (o : Op) (s : State),
    (s.answering t o →
      let held (persisting : Bool) : List Op :=
        s.ops.map (fun x => if x.ready = o.ready then { x with phase := .held t, persisting := persisting } else x)
      (o.persisting = true ∨ o.retries < s.settings.retryLimit.toNat →
        exec (.busyAnswer t) s = .next (settle { s with ops := held o.persisting })) ∧
      (o.persisting = false → s.settings.retryLimit.toNat ≤ o.retries → s.settings.exhaustAction = .persist →
        exec (.busyAnswer t) s = .next (settle (addIncident
          { kind := .retryPersisting, address := some o.address, initiator := none, tag := none, epoch := none,
            sequence := none } { s with ops := held true }))) ∧
      (o.persisting = false → s.settings.retryLimit.toNat ≤ o.retries → s.settings.exhaustAction = .fail →
        exec (.busyAnswer t) s =
          .next (settle (finalFail o false { s with ops := s.ops.filter (fun x => x.ready ≠ o.ready) })))) ∧
    let may (who : Requester) : Prop :=
      s.hold = .run ∨
        (s.modeInForce = .drain ∧
          match who with
          | .entry _ => True | .read _ => True | .capture _ => True | .openSlot _ _ => True | .closer => True
          | .orphan _ => True
          | .rollback => False | .mount => False | .mountAnchor _ => False
          | .anchor w => w.claimant = .closer)
    (o ∈ s.ops → o.phase = .held t → (∀ x ∈ s.ops, x.phase = .held t → x = o) →
      (may o.requester →
        exec (.reissue t) s = .next (settle { s with
          ops := s.ops.map (fun x =>
            if x.ready = o.ready then
              { x with
                retries := o.retries + 1, phase := .inFlight t s.settings.dsTimeoutUs.toNat,
                timeout := some s.settings.dsTimeoutUs }
            else x),
          hold := if s.hold = .safe then .holding else s.hold,
          issues := s.issues ++
            [{ tag := t, kind := o.kind, address := o.address, beats := o.beats, masks := o.masks,
               data := o.data }] })) ∧
      (¬may o.requester → exec (.reissue t) s = .next s))

/-- A timeout ends the record, quarantines its tag and logs DS_TIMEOUT, and the operation fails finally (R155, R158).
A late answer of any kind frees a QUARANTINED tag and the in-flight record that waited for it, and a FREE tag's
answer, or one to a HELD record, is discarded (R147, R156). Memory's FAIL, retry exhaustion and a timeout fail an
operation alike at its requester, but that a timed-out DATA_WRITE keeps its in-flight record, without its entry (R158,
R33). What a change enables follows in its event, in the order that is the model's choice (`settle`, log entry 4). The
model takes the timeout row as the expiry of whatever timer runs (log entry 12), and an answer row as the answer of the
record that holds its tag, whatever operation the row names: so ORPHAN_OPERATION_ANSWER fails any record here (log
entry 11). -/
def Obligations.TimeoutsQuarantineAndLateAnswersFree : Prop :=
  ∀ (t : DownTag) (s : State),
    (∀ o, s.flyingAt t = some o →
      exec (.dsTimeout t) s = .next (settle (finalFail o true (addIncident
        { kind := .dsTimeout, address := some o.address, initiator := none, tag := none, epoch := none,
          sequence := none }
        { s with ops := s.ops.filter (fun x => x.ready ≠ o.ready), quarantined := s.quarantined ++ [t] })))) ∧
    (s.flyingAt t = none → exec (.dsTimeout t) s = .next s) ∧
    (∀ a : MemoryAnswer, t ∈ s.quarantined →
      exec (.lateAnswer t a) s = .next (settle { s with
        quarantined := s.quarantined.filter (fun x => x ≠ t),
        inFlight := s.inFlight.filter (fun f => ¬(f.tag = t ∧ f.entry = none)) })) ∧
    (t ∉ s.quarantined → s.flyingAt t = none →
      (∀ a, exec (.lateAnswer t a) s = .next s) ∧ exec (.busyAnswer t) s = .next s ∧
      ∀ a, exec (.dataWriteAnswer t a) s = .next s) ∧
    (∀ o, s.answering t o →
      exec (.orphanOperationAnswer t .fail []) s =
        .next (settle (finalFail o false { s with ops := s.ops.filter (fun x => x.ready ≠ o.ready) }))) ∧
    (∀ (o : Op) (d : State), (∀ p, o.requester ≠ .entry p) → finalFail o true d = finalFail o false d) ∧
    (∀ (o : Op) (d : State) (p : Nat) (e : WriteEntry), o.requester = .entry p → d.entryAt p = some e →
      (finalFail o false d).inFlight = d.inFlight.filter (fun f => f.entry ≠ some p) ∧
      finalFail o true d =
        { finalFail o false d with
          inFlight := d.inFlight.map (fun f => if f.entry = some p then { f with entry := none } else f) })

/-! ### Data writes and reads -/

/-- The entry at the issue pointer, once READY, asks for the tag of its DATA_WRITE when the in-flight set has room and
does not name its granule, no earlier read of the granule remains, its journal gate is open and the hold allows it
(R27 to R29). A read asks for the tag of its DATA_READ when no earlier write of its granule remains in the Write
Queue, no timed-out write of the granule still stands in the in-flight set, and the hold allows it (R38, R33, R41).
One condition missing, nothing happens; nor where every entry is ISSUED, or the entry at the pointer has its record, or
a DATA_WRITE already waits for its tag (R27: one entry at a time). R36 holds the reads as an unordered set, and R38 and
R39 order none of them: that of several the oldest in the tracker, and no other, asks first is the model's choice, and
what a change enables follows in its event, in the order that is the model's choice (`settle`; DESIGN CHOICE, log entry
4). -/
def Obligations.DataOperationsIssueUnderTheirConditions : Prop :=
  (∀ (before after : List WriteEntry) (e : WriteEntry) (s : State),
     s.writeQueue = before ++ e :: after → (∀ x ∈ before, x.stage = .issued) → e.stage ≠ .issued →
     (∀ o ∈ s.ops, o.phase = .waiting → ∀ p, o.requester ≠ .entry p) → (∀ o ∈ s.ops, o.requester ≠ .entry e.place) →
       let gate : Prop :=
         e.relation = .none ∨ ∃ q f g, e.slotSeq = some q ∧ s.ring = some g ∧ g.frontier = some f ∧ later q f = false
       let may : Prop :=
         e.stage = .ready ∧ s.inFlight.length < 8 ∧ (∀ f ∈ s.inFlight, f.granule ≠ e.granule) ∧
         (∀ r ∈ s.readTracker, granuleOf r.address = e.granule → e.place ≤ r.place) ∧ gate ∧
         (s.hold = .run ∨ s.modeInForce = .drain)
       (may → exec .dataWriteIssue s = .next (settle (request .dataWrite (.entry e.place)
         (e.granule + BitVec.ofNat 32 (8 * e.firstBeat)) e.beats e.masks e.data s))) ∧
       (¬may → exec .dataWriteIssue s = .next s)) ∧
  (∀ s : State,
     ((∀ e ∈ s.writeQueue, e.stage = .issued) ∨
         (∃ o ∈ s.ops, o.phase = .waiting ∧ ∃ p, o.requester = .entry p) →
       exec .dataWriteIssue s = .next s) ∧
     ∀ (before after : List WriteEntry) (e : WriteEntry),
       s.writeQueue = before ++ e :: after → (∀ x ∈ before, x.stage = .issued) → e.stage ≠ .issued →
       (∃ o ∈ s.ops, o.requester = .entry e.place) → exec .dataWriteIssue s = .next s) ∧
  (∀ s : State,
     let eligible (r : ReadEntry) : Prop :=
       r.stage = .hazardWait ∧
       (∀ e ∈ s.writeQueue, e.granule = granuleOf r.address → r.place ≤ e.place) ∧
       (∀ f ∈ s.inFlight, f.granule = granuleOf r.address → f.entry ≠ none) ∧
       (s.hold = .run ∨ s.modeInForce = .drain) ∧
       ∀ o ∈ s.ops, o.requester ≠ .read r.place
     (∀ (before after : List ReadEntry) (r : ReadEntry), s.readTracker = before ++ r :: after → eligible r →
       (∀ x ∈ before, ¬eligible x) →
       exec .dataReadIssue s = .next (settle (request .dataRead (.read r.place) r.address r.beats [] [] s))) ∧
     ((∀ r ∈ s.readTracker, ¬eligible r) → exec .dataReadIssue s = .next s))

/-- The final answer to a DATA_WRITE: OK ends the entry, a WAITED one answered OK (R31); FAIL fails it with MEM_ERROR
(R32); after a timeout the entry fails likewise and the in-flight record stays, without its entry (R33). The final
answer to a DATA_READ: OK with the operation's beats answers the read with them; FAIL, or an OK with another number of
beats, answers MEM_ERROR with beats of 0xFF; the read leaves the tracker (R39, R147). What a change enables follows in
its event, in the order that is the model's choice (`settle`, log entry 4). -/
def Obligations.DataAnswersEndTheirRequests : Prop :=
  (∀ (t : DownTag) (o : Op) (e : WriteEntry) (p : Nat) (s : State),
     s.answering t o → o.kind = .dataWrite → o.requester = .entry p → s.entryAt p = some e →
       let d : State := { s with ops := s.ops.filter (fun x => x.ready ≠ o.ready) }
       exec (.dataWriteAnswer t .ok) s = .next (settle { d with
         inFlight := s.inFlight.filter (fun f => f.entry ≠ some p),
         writeQueue := s.writeQueue.filter (fun x => x.place ≠ p),
         ops := d.ops.filter (fun x => ¬(x.phase = .waiting ∧ x.requester = .entry p)),
         responses :=
           if e.ack = .waited then s.responses ++ [{ tag := e.tag, status := .ok, data := [] }] else s.responses }) ∧
       exec (.dataWriteAnswer t .fail) s = .next (settle (failEntry e .memError .postedWriteFailed
         { d with inFlight := s.inFlight.filter (fun f => f.entry ≠ some p) })) ∧
       finalFail o true d = failEntry e .memError .postedWriteFailed
         { d with inFlight := s.inFlight.map (fun f => if f.entry = some p then { f with entry := none } else f) }) ∧
  (∀ (t : DownTag) (o : Op) (r : ReadEntry) (p : Nat) (data : List Beat) (s : State),
     s.answering t o → o.kind = .dataRead → o.requester = .read p → s.readAt p = some r →
       let ended (status : Status) (beats : List Beat) : State :=
         { s with
           ops := s.ops.filter (fun x => x.ready ≠ o.ready),
           readTracker := s.readTracker.filter (fun x => x.place ≠ p),
           responses := s.responses ++ [{ tag := r.tag, status := status, data := beats }] }
       let ones := List.replicate r.beats 0xFFFFFFFFFFFFFFFF#64
       (data.length = o.beats → exec (.dataReadAnswer t .ok data) s = .next (settle (ended .ok data))) ∧
       (data.length ≠ o.beats → exec (.dataReadAnswer t .ok data) s = .next (settle (ended .memError ones))) ∧
       exec (.dataReadAnswer t .fail data) s = .next (settle (ended .memError ones)))

/-! ### Undo capture -/

/-- The head of the capture order starts when its conditions hold: with space it is allocated its UNDO slot, the undo
count and its ordinal rise, and its sequence is handed out; without space it fails at once or begins to wait (R12,
R46, R51, R52). The waiter, when granted its space, allocates likewise (R13). What a change enables follows in its
event, in the order that is the model's choice (`settle`, log entry 4). -/
def Obligations.CapturesStartInOrderAndTakeSpace : Prop :=
  ∀ (c : CaptureRecord) (e : WriteEntry) (g : Ring) (s : State), s.ring = some g →
    let allocated : State :=
      { s with
        spaceWaiter := none,
        ring := some (g.allocated s.slotsInUse),
        latched :=
          if s.controller ≠ .mounting ∧ s.settings.lowSpaceSlots.toNat ≤ s.freeOf g
              ∧ s.freeOf g - 1 < s.settings.lowSpaceSlots.toNat then s.latched ||| 0x04#6 else s.latched,
        active := s.active.map (fun a =>
          if a.number = c.epoch then
            { a with
              undoCount := a.undoCount + 1, filterless := if c.filterless then a.filterless + 1 else a.filterless }
          else a),
        closing := s.closing.map (fun k =>
          if k.record.number = c.epoch then
            { k with record :=
                { k.record with
                  undoCount := k.record.undoCount + 1,
                  filterless := if c.filterless then k.record.filterless + 1 else k.record.filterless } }
          else k),
        writeQueue := s.writeQueue.map (fun x =>
          if x.place = c.entry then { x with slotSeq := some g.nextSeq, stage := .undoRead }
          else if x.place ∈ c.covered then { x with slotSeq := some g.nextSeq } else x),
        filter := s.filter.map (fun f =>
          if f.link = some c.entry then { f with covering := some g.nextSeq, link := none } else f),
        captureOrder := s.captureOrder.filter (fun x => x.entry ≠ c.entry),
        captures := s.captures ++
          [{ entry := c.entry, position := g.head, sequence := g.nextSeq,
             ordinal := (match s.epochOf c.epoch with | some r => r.undoCount + 1 | none => 0), step := .reading,
             oldBytes := none, mark := .none }] }
    c.entry ∉ c.covered →
    (s.mayStart c e = true ↔
      e.stage = .queued ∧ s.spaceWaiter = none ∧ s.captures.length < 4 ∧
      (∃ r, s.epochOf c.epoch = some r ∧ r.openSlot ≠ none) ∧
      (∀ x ∈ s.writeQueue, x.granule = c.granule → c.entry ≤ x.place) ∧
      (s.hold = .run ∨ s.modeInForce = .drain)) ∧
    (∀ rest, s.captureOrder = c :: rest → s.entryAt c.entry = some e → s.spaceWaiter = none → s.mayStart c e = true →
      (g.owed + 1 ≤ s.freeOf g → exec .captureStart s = .next (settle allocated)) ∧
      (s.freeOf g < g.owed + 1 → s.isClosing c.epoch = true ∨ s.settings.fullWaitUs = 0 →
        exec .captureStart s = .next (settle (failForSpace c s))) ∧
      (s.freeOf g < g.owed + 1 → s.isClosing c.epoch = false → s.settings.fullWaitUs ≠ 0 →
        exec .captureStart s = .next (settle { s with
          writeQueue := s.writeQueue.map (fun x => if x.place = c.entry then { x with stage := .spaceWait } else x),
          spaceWaiter := some
            { entry := c.entry, tag := e.tag, initiator := e.initiator, epoch := c.epoch,
              timer := if s.settings.fullWaitUs = 65535 then none else some s.settings.fullWaitUs.toNat } }))) ∧
    (s.waitingRecord = some c →
      (g.owed + 1 ≤ s.freeOf g → exec .spaceGranted s = .next (settle allocated)) ∧
      (s.freeOf g < g.owed + 1 → exec .spaceGranted s = .next s))

/-- OK to an UNDO_READ keeps the old bytes, and the capture goes on to its slot write; a capture marked FAULT ends and
its entry is withdrawn (R53, R58). OK to the slot write makes the slot durable, ends the capture and makes its entry
READY, or withdraws it under a mark (R54, R57, R58). A final failure of either fails the entry, logs UNDO_FAILED and
enters FAULTED (R55). The first capture that has to ask, marked other than FAULT, asks for its UNDO_READ of the whole
granule, and then for the write of its UNDO slot, which carries the old bytes (R53, R54, R4); in a freeze hold none
does (R60). That the oldest of several asks first is the model's choice, and what a change enables follows in its
event, in the order that is the model's choice (`settle`, log entry 4). -/
def Obligations.CaptureAnswersMoveTheCapture : Prop :=
  (∀ (g : Ring) (m : Geometry) (s : State), s.ring = some g → s.geometry = some m →
    let asks (c : Capture) : Prop :=
      c.mark ≠ .fault ∧ (∀ o ∈ s.ops, o.requester ≠ .capture c.entry) ∧ ∃ e ∈ s.writeQueue, e.place = c.entry
    (∀ (before after : List Capture) (c : Capture) (e : WriteEntry), s.captures = before ++ c :: after → asks c →
      (∀ k ∈ before, ¬asks k) → s.entryAt c.entry = some e → (s.hold = .run ∨ s.modeInForce = .drain) →
      captureIssue? s = some
        (match c.step with
         | .reading => request .undoRead (.capture c.entry) e.granule 4 [] [] s
         | .writing =>
           request .slotWrite (.capture c.entry) (m.base + BitVec.ofNat 32 (64 * c.position)) 8
             (List.replicate 8 0xFF#8)
             (beatsOfWords (ringSlot .undo g.journal c.sequence (e.epoch.getD 0) e.granule (BitVec.ofNat 32 c.ordinal)
               (BitVec.ofNat 32 e.initiator.val) (wordsOfBeats (c.oldBytes.getD [])))) s)) ∧
    ((∀ c ∈ s.captures, ¬asks c) ∨ (s.hold ≠ .run ∧ s.modeInForce = .freeze) → captureIssue? s = none)) ∧
  ∀ (t : DownTag) (o : Op) (c : Capture) (e : WriteEntry) (data : List Beat) (s : State),
    s.answering t o → o.requester = .capture c.entry → s.captureOf c.entry = some c → s.entryAt c.entry = some e →
      let d : State := { s with ops := s.ops.filter (fun x => x.ready ≠ o.ready) }
      let ended (x : State) : State := { x with captures := x.captures.filter (fun k => k.entry ≠ c.entry) }
      let failed : State :=
        enterFaulted (addIncident
          { kind := .undoFailed, address := some e.granule, initiator := none, tag := none,
            epoch := some (e.epoch.getD 0), sequence := some c.sequence }
          (failEntry e .memError .postedWriteFailed (ended d)))
      let acked : State := ended { d with ring := s.ring.map (fun g => g.acknowledged c.sequence) }
      (o.kind = .undoRead → data.length = o.beats → c.mark ≠ .fault →
        exec (.undoReadAnswer t .ok data) s = .next (settle { d with
          captures := s.captures.map (fun k =>
            if k.entry = c.entry then { k with step := .writing, oldBytes := some data } else k),
          writeQueue := s.writeQueue.map (fun x =>
            if x.place = c.entry then { x with stage := .undoWrite } else x) })) ∧
      (o.kind = .undoRead → data.length = o.beats → c.mark = .fault →
        exec (.undoReadAnswer t .ok data) s = .next (settle (withdraw e (ended d)))) ∧
      (o.kind = .undoRead → data.length ≠ o.beats → exec (.undoReadAnswer t .ok data) s = .next (settle failed)) ∧
      (o.kind = .undoRead → exec (.undoReadAnswer t .fail data) s = .next (settle failed)) ∧
      (o.kind = .slotWrite → c.mark = .none →
        exec (.undoSlotWriteAnswer t .ok) s = .next (settle { acked with
          writeQueue := s.writeQueue.map (fun x =>
            if x.place = c.entry then { x with stage := .ready } else x) })) ∧
      (o.kind = .slotWrite → c.mark ≠ .none →
        exec (.undoSlotWriteAnswer t .ok) s = .next (settle (withdraw e acked))) ∧
      (o.kind = .slotWrite → exec (.undoSlotWriteAnswer t .fail) s = .next (settle failed))

/-! ### The closer and the anchor writer -/

/-- The closer allocates its CLOSE once no capture record of its epoch remains, and a deferred OPEN after it (R74); it
asks for the tag of the CLOSE write once no entry of the epoch remains and the frontier covers the slot before it
(R75); each waits while its conditions do not hold. What a change enables follows in its event, in the order that is
the model's choice (`settle`, log entry 4). -/
def Obligations.CloserAllocatesAndWritesItsMarker : Prop :=
  ∀ (c : ClosingRecord) (g : Ring) (s : State), s.closing = some c → s.ring = some g →
    let low := s.settings.lowSpaceSlots.toNat
    let latchedBy (k : Nat) : BitVec 6 :=
      if s.controller ≠ .mounting ∧ low ≤ s.freeOf g ∧ s.freeOf g - k < low then s.latched ||| 0x04#6 else s.latched
    let captured : Prop := c.stage = .capturing ∧ ∀ r ∈ s.captureOrder, r.epoch ≠ c.record.number
    let first := g.allocated s.slotsInUse
    let draining : Option ClosingRecord := some { c with stage := .draining, closeSlot := some ⟨g.head, g.nextSeq⟩ }
    (captured → (∀ a, s.active = some a → a.openSlot ≠ none) →
      exec .closerCapturingDone s = .next (settle { s with
        ring := some { first with owed := g.owed - 1 }, latched := latchedBy 1, closing := draining })) ∧
    (captured → ∀ a, s.active = some a → a.openSlot = none →
      exec .closerCapturingDone s = .next (settle { s with
        ring := some { first.allocated s.slotsInUse with owed := g.owed - 2 }, latched := latchedBy 2,
        closing := draining, active := some { a with openSlot := some ⟨first.head, g.nextSeq + 1⟩ },
        openWrites := s.openWrites ++
          [{ epoch := a.number, origin := a.origin, slot := ⟨first.head, g.nextSeq + 1⟩ }] })) ∧
    (¬captured → exec .closerCapturingDone s = .next s) ∧
    (∀ (slot : SlotRef) (m : Geometry), c.closeSlot = some slot → s.geometry = some m →
      let drained : Prop :=
        c.stage = .draining ∧ (∀ e ∈ s.writeQueue, e.epoch ≠ some c.record.number) ∧
        g.coversSeq (slot.sequence - 1) = true ∧ (s.hold = .run ∨ s.modeInForce = .drain) ∧
        ∀ o ∈ s.ops, o.requester ≠ .closer
      (drained → exec .closeWriteIssue s = .next (settle (request .slotWrite .closer
        (m.base + BitVec.ofNat 32 (64 * slot.position)) 8 (List.replicate 8 0xFF#8)
        (beatsOfWords (markerSlot .close g.journal slot.sequence c.record.number
          (BitVec.ofNat 32 c.record.undoCount))) s))) ∧
      (¬drained → exec .closeWriteIssue s = .next s))

/-- One anchor write at a time: the closer's claim goes first, a rollback's waits for the closer to be NONE (R17); the
write goes to the copy not in force with its generation plus 1, or to the copy that FORMAT names, and its contents are
taken at the issue of the claim, which creates the record (R18, R5, R144); a grant of its tag later sends those contents,
whatever the Epoch Controller holds by then (R144, R153). In a freeze hold no claim is issued, and in any hold none of a
rollback or a mount (R78, R99, R119). What a change enables follows in its event, in the order that is the model's
choice (`settle`, log entry 4). That the epoch numbers are those of the claim's issue and not of the grant is DEDUCED
(log entry 13). -/
def Obligations.AnchorClaimsAreServedInTurn : Prop :=
  ∀ (c : Claim) (g : Ring) (m : Geometry) (s : State), s.ring = some g → s.geometry = some m →
    let target : Option (Copy × Word) :=
      match c.target, g.inForce with
      | some t, _ => some t
      | none, some (.a, n) => some (.b, n + 1)
      | none, some (.b, n) => some (.a, n + 1)
      | none, none => none
    let turn : Prop :=
      (c.claimant = .closer ∧ (∀ x ∈ s.claims, x.claimant = .closer → x = c) ∧
        (s.hold = .run ∨ s.modeInForce = .drain)) ∨
      (c.claimant ≠ .closer ∧ (∀ x ∈ s.claims, x = c) ∧ s.hold = .run ∧
        (c.claimant = .rollback → s.closing = none))
    ((∀ o ∈ s.ops, o.kind ≠ .anchorWrite) → c ∈ s.claims → turn →
      ∀ t : Copy × Word, target = some t →
        let w : AnchorWrite :=
          { claimant := c.claimant, copy := t.1, generation := t.2, tail := c.tail, tailSeq := c.tailSeq,
            numbers := c.numbers }
        let numbers : Word × Word :=
          match c.numbers with
          | some n => n
          | none => (s.nextEpoch.getD 0, s.lastCommitted.getD 0)
        exec .anchorClaimIssue s = .next (settle (request .anchorWrite (.anchor w)
          (m.base + (match t.1 with | .a => 0 | .b => 64)) 8 (List.replicate 8 0xFF#8)
          (beatsOfWords (anchorSlot g.journal t.2 (BitVec.ofNat 32 m.slots) (BitVec.ofNat 32 c.tail) c.tailSeq
            numbers.1 numbers.2)) s))) ∧
    ((∃ o ∈ s.ops, o.kind = .anchorWrite) ∨ s.claims = [] ∨
        (s.closing ≠ none ∧ ∀ x ∈ s.claims, x.claimant = .rollback) ∨
        (s.hold ≠ .run ∧ s.modeInForce = .freeze) ∨
        (s.hold ≠ .run ∧ ∀ x ∈ s.claims, x.claimant ≠ .closer) →
      exec .anchorClaimIssue s = .next s) ∧
    (∀ (w : AnchorWrite) (o : Op) (x : DownTag), o.requester = .anchor w → o.phase = .waiting →
      grant o x s =
        { s with
          ops := s.ops.map (fun p =>
            if p.ready = o.ready then
              { p with
                retries := 0, phase := .inFlight x s.settings.dsTimeoutUs.toNat,
                timeout := some s.settings.dsTimeoutUs }
            else p),
          hold := if s.hold = .safe then .holding else s.hold,
          issues := s.issues ++
            [{ tag := x, kind := o.kind, address := o.address, beats := o.beats, masks := o.masks,
               data := o.data }] })

/-- The final answers to the OPEN's and the CLOSE's slot writes: OK makes the slot durable, and the CLOSE's OK is the
commit point, with its completion record and the closer's anchor claim (R69, R76); a failure logs MARKER_FAILED and
enters FAULTED. The first OPEN that is owed its write asks for it, with the OPEN's words (R69, R4); in FAULTED, and in
a freeze hold, none does (R69, R81). That the oldest of several asks first is the model's choice, and what a change
enables follows in its event, in the order that is the model's choice (`settle`, log entry 4). -/
def Obligations.MarkerAnswersMakeEpochsDurable : Prop :=
  (∀ (g : Ring) (m : Geometry) (s : State), s.ring = some g → s.geometry = some m →
    let asks (w : OpenWrite) : Prop := ∀ o ∈ s.ops, o.requester ≠ .openSlot w.epoch w.slot.sequence
    (∀ (before after : List OpenWrite) (w : OpenWrite), s.openWrites = before ++ w :: after → asks w →
      (∀ x ∈ before, ¬asks x) → s.controller ≠ .faulted → (s.hold = .run ∨ s.modeInForce = .drain) →
      openWriteIssue? s = some (request .slotWrite (.openSlot w.epoch w.slot.sequence)
        (m.base + BitVec.ofNat 32 (64 * w.slot.position)) 8 (List.replicate 8 0xFF#8)
        (beatsOfWords (markerSlot .openSlot g.journal w.slot.sequence w.epoch
          (match w.origin with | .host => 0 | .auto => 1))) s)) ∧
    ((∀ w ∈ s.openWrites, ¬asks w) ∨ s.controller = .faulted ∨ (s.hold ≠ .run ∧ s.modeInForce = .freeze) →
      openWriteIssue? s = none)) ∧
  ∀ (t : DownTag) (o : Op) (s : State), s.answering t o → o.kind = .slotWrite →
    let d : State := { s with ops := s.ops.filter (fun x => x.ready ≠ o.ready) }
    let marker (epoch sequence : Word) : Incident :=
      { kind := .markerFailed, address := none, initiator := none, tag := none, epoch := some epoch,
        sequence := some sequence }
    (∀ epoch sequence : Word, o.requester = .openSlot epoch sequence →
      let closed : State :=
        { d with openWrites := s.openWrites.filter (fun w => ¬(w.epoch = epoch ∧ w.slot.sequence = sequence)) }
      exec (.openSlotWriteAnswer t .ok) s =
        .next (settle { closed with ring := s.ring.map (fun g => g.acknowledged sequence) }) ∧
      exec (.openSlotWriteAnswer t .fail) s =
        .next (settle (enterFaulted (addIncident (marker epoch sequence) closed)))) ∧
    (∀ (c : ClosingRecord) (slot : SlotRef), o.requester = .closer → s.closing = some c → c.closeSlot = some slot →
      exec (.closeSlotWriteAnswer t .ok) s = .next (settle (addCompletion
        { op := .commit, trigger := c.trigger, epoch := some c.record.number, outcome := .committed,
          countA := c.record.undoCount, countB := c.record.failed, discarded := 0 }
        { d with
          ring := s.ring.map (fun g => g.acknowledged slot.sequence), lastCommitted := some c.record.number,
          closing := some { c with stage := .reclaiming },
          claims := s.claims ++
            [{ claimant := .closer,
               tail := if slot.position + 1 < s.slotsInUse then slot.position + 1 else 2,
               tailSeq := slot.sequence + 1, numbers := none, target := none }] })) ∧
      exec (.closeSlotWriteAnswer t .fail) s =
        .next (settle (enterFaulted (addIncident (marker c.record.number slot.sequence) d))))

/-- The final answer to an anchor write: OK puts it in force, moves the tail and recounts the occupancy (R19), and
reports to its claimant: the closer becomes NONE (R77), a rollback completes (R96), FORMAT goes on to anchor A or
completes (R109), a recovery completes with the numbers it claimed (R116, R117, R16). A failure logs ANCHOR_FAILED,
and enters FAULTED or ends the mount FAILED (R19, R118). What a change enables follows in its event, in the order that
is the model's choice (`settle`, log entry 4). That each of the two rows for an anchor write's answer acts for the
other's operation too is the model's choice (log entry 11). -/
def Obligations.AnchorAnswersMoveTheTail : Prop :=
  ∀ (t : DownTag) (o : Op) (w : AnchorWrite) (g : Ring) (s : State),
    s.answering t o → o.kind = .anchorWrite → o.requester = .anchor w → s.ring = some g →
      let moved : Ring :=
        { g with
          inForce := some (w.copy, w.generation), tail := w.tail, tailSeq := w.tailSeq,
          occupancy := (g.nextSeq - w.tailSeq).toNat }
      let d : State :=
        { s with
          ops := s.ops.filter (fun x => x.ready ≠ o.ready), claims := s.claims.filter (fun c => c.claimant ≠ w.claimant) }
      let r : State := { d with ring := some moved }
      let failed : State :=
        addIncident
          { kind := .anchorFailed, address := none, initiator := none, tag := none, epoch := none,
            sequence := some w.tailSeq } d
      let mounted (m : Mount) (outcome : LongOutcome) (next last : Word) : State :=
        addCompletion
          { op := (match m.kind with | .format => .format | .recover => .recover), trigger := m.trigger,
            epoch := (match m.kind with | .format => none | .recover => m.openEpoch.map (·.1)), outcome := outcome,
            countA := (match m.kind with | .format => 0 | .recover => m.scanned),
            countB := (match m.kind with | .format => 0 | .recover => m.restored), discarded := 0 }
          { r with
            mount := none, controller := .idle, nextEpoch := some next, lastCommitted := some last,
            latched :=
              if s.capacity - moved.occupancy < s.settings.lowSpaceSlots.toNat then s.latched ||| 0x04#6
              else s.latched }
      (w.claimant = .closer →
        exec (.anchorWriteAnswer t .ok) s = .next (settle { r with closing := none }) ∧
        exec (.anchorWriteAnswer t .fail) s = .next (settle (enterFaulted failed))) ∧
      (w.claimant = .rollback →
        (∀ b, s.rollback = some b →
          exec (.anchorWriteAnswer t .ok) s = .next (settle (addCompletion
            { op := .abort, trigger := .host, epoch := some b.epoch, outcome := .rolledBack, countA := b.undoCount,
              countB := b.restored, discarded := 0 } { r with rollback := none, controller := .idle }))) ∧
        exec (.anchorWriteAnswer t .fail) s = .next (settle (enterFaulted failed))) ∧
      (w.claimant = .mount → ∀ m, s.mount = some m →
        (m.kind = .recover → ∀ next last, w.numbers = some (next, last) →
          exec (.anchorWriteAnswer t .ok) s = .next (settle (mounted m
            (if m.openEpoch = none then .mountedClean else .mountedRolledBack) next last))) ∧
        (m.kind = .format → m.phase = .writingA →
          exec (.formatAnchorWriteAnswer t .ok) s = .next (settle (mounted m .formatted 1 0))) ∧
        (m.kind = .format → m.phase = .writingB →
          exec (.formatAnchorWriteAnswer t .ok) s = .next (settle { r with
            mount := some { m with phase := .writingA },
            claims := r.claims ++
              [{ claimant := .mount, tail := 2, tailSeq := 1, numbers := some (1, 0), target := some (.a, 2) }] })) ∧
        exec (.formatAnchorWriteAnswer t .fail) s = .next (settle (endMount .failed failed)) ∧
        exec (.anchorWriteAnswer t .fail) s = .next (settle (endMount .failed failed)))

/-! ### Rollback -/

/-- SETTLING passes when no entry of the epoch remains and the frontier covers the newest slot: replay begins at the
slot before head, or the ABANDON is allocated where the epoch has no UNDO slot (R90, R94). A slot read back waits
while an earlier write of its granule, or an in-flight record of it, remains, and is then restored, by a rollback
(R93) as by a recovery (R114); a hold keeps the request back (R99, R119). That the step passes to RESTORING under a
hold, and that a request cancelled by it is made again in that step, is DEDUCED (log entry 26). What a change enables
follows in its event, in the order that is the model's choice (`settle`, log entry 4). -/
def Obligations.ReplaysSettleAndRestoreInOrder : Prop :=
  ∀ (g : Ring) (s : State), s.ring = some g →
    (∀ b : Rollback, s.rollback = some b → b.phase = .settling →
      let settled : Prop :=
        (∀ e ∈ s.writeQueue, e.epoch ≠ some b.epoch) ∧ g.coversSeq (g.nextSeq - 1) = true
      (settled → b.undoCount ≠ 0 →
        exec .rollbackSettled s = .next (settle { s with
          rollback := some { b with
            phase := .replaying, step := some .reading,
            cursor := some
              { position := if g.head ≤ 2 then s.slotsInUse - 1 else g.head - 1, sequence := g.nextSeq - 1,
                ordinal := b.undoCount } } })) ∧
      (settled → b.undoCount = 0 →
        exec .rollbackSettled s = .next (settle { s with
          ring := some { g.allocated s.slotsInUse with owed := g.owed - 1 },
          latched :=
            if s.controller ≠ .mounting ∧ s.settings.lowSpaceSlots.toNat ≤ s.freeOf g
                ∧ s.freeOf g - 1 < s.settings.lowSpaceSlots.toNat then s.latched ||| 0x04#6 else s.latched,
          rollback := some { b with
            phase := .abandoning, cursor := none, step := none, contents := none,
            abandonSlot := some ⟨g.head, g.nextSeq⟩ } })) ∧
      (¬settled → exec .rollbackSettled s = .next s)) ∧
    (∀ ws : List Word,
      let granule := ws.getD 4 0
      let clear (point : Nat) : Prop :=
        (∀ e ∈ s.writeQueue, e.granule = granule → point ≤ e.place) ∧ ∀ f ∈ s.inFlight, f.granule ≠ granule
      let restore (who : Requester) (t : State) : State :=
        request .restoreWrite who granule 4 (List.replicate 4 0xFF#8) (beatsOfWords (ws.drop 8)) t
      (∀ b : Rollback, s.rollback = some b → b.phase = .replaying → b.step = some .waiting → b.contents = some ws →
        let t : State := { s with rollback := some { b with step := some .restoring } }
        (clear b.abortPoint → s.hold = .run → (∀ o ∈ s.ops, o.requester ≠ .rollback) →
          exec .rollbackRestoreIssue s = .next (settle (restore .rollback t))) ∧
        (clear b.abortPoint → s.hold ≠ .run ∨ (∃ o ∈ s.ops, o.requester = .rollback) →
          exec .rollbackRestoreIssue s = .next (settle t)) ∧
        (¬clear b.abortPoint → exec .rollbackRestoreIssue s = .next s)) ∧
      (∀ b : Rollback, s.rollback = some b → b.phase = .replaying → b.step = some .restoring → b.contents = some ws →
        (s.hold = .run → (∀ o ∈ s.ops, o.requester ≠ .rollback) →
          exec .rollbackRestoreIssue s = .next (settle (restore .rollback s))) ∧
        (s.hold ≠ .run ∨ (∃ o ∈ s.ops, o.requester = .rollback) → exec .rollbackRestoreIssue s = .next s)) ∧
      (∀ m : Mount, s.mount = some m → m.phase = .replaying → m.step = some .waiting → m.contents = some ws →
        let t : State := { s with mount := some { m with step := some .restoring } }
        (clear m.startPoint → s.hold = .run → (∀ o ∈ s.ops, o.requester ≠ .mount) →
          exec .mountRestoreIssue s = .next (settle (restore .mount t))) ∧
        (clear m.startPoint → s.hold ≠ .run ∨ (∃ o ∈ s.ops, o.requester = .mount) →
          exec .mountRestoreIssue s = .next (settle t)) ∧
        (¬clear m.startPoint → exec .mountRestoreIssue s = .next s)) ∧
      (∀ m : Mount, s.mount = some m → m.phase = .replaying → m.step = some .restoring → m.contents = some ws →
        (s.hold = .run → (∀ o ∈ s.ops, o.requester ≠ .mount) →
          exec .mountRestoreIssue s = .next (settle (restore .mount s))) ∧
        (s.hold ≠ .run ∨ (∃ o ∈ s.ops, o.requester = .mount) → exec .mountRestoreIssue s = .next s)))

/-- The final answers to a rollback's operations. A slot read back that passes the tests of R92 is kept and waits; one
that fails them logs SLOT_INVALID and enters FAULTED. An acknowledged restore counts and steps the cursor back, or
after ordinal 1 allocates the ABANDON (R93, R94). An acknowledged ABANDON is durable and raises the rollback's claim
(R95). A failed operation logs its incident and enters FAULTED (R91, R93, R95). The rollback asks for the read of the
slot at its cursor (R91), and for the write of its ABANDON, whose count is that of the granules restored (R94, R95,
R4); in a hold it asks for neither (R99). What a change enables follows in its event, in the order that is the model's
choice (`settle`, log entry 4). -/
def Obligations.RollbackAnswersReplayTheEpoch : Prop :=
  (∀ (b : Rollback) (g : Ring) (m : Geometry) (s : State),
    s.rollback = some b → s.ring = some g → s.geometry = some m →
      let place (position : Nat) : Word := m.base + BitVec.ofNat 32 (64 * position)
      (s.hold = .run → (∀ o ∈ s.ops, o.requester ≠ .rollback) →
        (∀ c : Cursor, b.phase = .replaying → b.step = some .reading → b.cursor = some c →
          rollbackIssue? s = some (request .slotRead .rollback (place c.position) 8 [] [] s)) ∧
        (∀ slot : SlotRef, b.phase = .abandoning → b.abandonSlot = some slot →
          rollbackIssue? s = some (request .slotWrite .rollback (place slot.position) 8 (List.replicate 8 0xFF#8)
            (beatsOfWords (markerSlot .abandon g.journal slot.sequence b.epoch (BitVec.ofNat 32 b.restored))) s))) ∧
      (s.hold ≠ .run ∨ (∃ o ∈ s.ops, o.requester = .rollback) → rollbackIssue? s = none)) ∧
  ∀ (t : DownTag) (o : Op) (b : Rollback) (g : Ring) (m : Geometry) (s : State),
    s.answering t o → o.requester = .rollback → s.rollback = some b → s.ring = some g → s.geometry = some m →
      let d : State := { s with ops := s.ops.filter (fun x => x.ready ≠ o.ready) }
      let faulted (kind : IncidentKind) (address : Option Word) (sequence : Word) (x : State) : State :=
        enterFaulted (addIncident
          { kind := kind, address := address, initiator := none, tag := none, epoch := some b.epoch,
            sequence := some sequence } x)
      (∀ (c : Cursor) (data : List Beat), b.cursor = some c →
        let ws := wordsOfBeats data
        let good : Prop :=
          validCheck ws = true ∧ byteOf (ws.getD 0 0) 0 = 2 ∧ ws.getD 1 0 = g.journal ∧ ws.getD 2 0 = c.sequence ∧
          ws.getD 3 0 = b.epoch ∧ ws.getD 5 0 = BitVec.ofNat 32 c.ordinal ∧ (ws.getD 4 0).toNat % 32 = 0 ∧
          inJournalArea m.base m.slots (ws.getD 4 0) = false
        let kept : Rollback := { b with contents := some ws }
        (o.kind = .slotRead → data.length = o.beats → good →
          exec (.rollbackSlotReadAnswer t .ok data) s =
            .next (settle { d with rollback := some { kept with step := some .waiting } })) ∧
        (o.kind = .slotRead → data.length = o.beats → ¬good →
          exec (.rollbackSlotReadAnswer t .ok data) s =
            .next (settle (faulted .slotInvalid none c.sequence { d with rollback := some kept }))) ∧
        (o.kind = .slotRead →
          exec (.rollbackSlotReadAnswer t .fail data) s =
            .next (settle (faulted .restoreFailed (some o.address) c.sequence d))) ∧
        (o.kind = .restoreWrite → 1 < c.ordinal →
          exec (.rollbackRestoreAnswer t .ok) s = .next (settle { d with
            rollback := some { b with
              restored := b.restored + 1, contents := none, step := some .reading,
              cursor := some
                { position := if c.position ≤ 2 then s.slotsInUse - 1 else c.position - 1, sequence := c.sequence - 1,
                  ordinal := c.ordinal - 1 } } })) ∧
        (o.kind = .restoreWrite → c.ordinal ≤ 1 →
          exec (.rollbackRestoreAnswer t .ok) s = .next (settle { d with
            ring := some { g.allocated s.slotsInUse with owed := g.owed - 1 },
            latched :=
              if s.controller ≠ .mounting ∧ s.settings.lowSpaceSlots.toNat ≤ s.freeOf g
                  ∧ s.freeOf g - 1 < s.settings.lowSpaceSlots.toNat then s.latched ||| 0x04#6 else s.latched,
            rollback := some { b with
              restored := b.restored + 1, phase := .abandoning, cursor := none, step := none, contents := none,
              abandonSlot := some ⟨g.head, g.nextSeq⟩ } })) ∧
        (o.kind = .restoreWrite →
          exec (.rollbackRestoreAnswer t .fail) s =
            .next (settle (faulted .restoreFailed (some o.address) c.sequence d)))) ∧
      (∀ slot : SlotRef, o.kind = .slotWrite → b.abandonSlot = some slot →
        exec (.rollbackAbandonAnswer t .ok) s = .next (settle { d with
          ring := some (g.acknowledged slot.sequence), rollback := some { b with phase := .anchoring },
          claims := s.claims ++
            [{ claimant := .rollback, tail := g.head, tailSeq := g.nextSeq, numbers := none, target := none }] }) ∧
        exec (.rollbackAbandonAnswer t .fail) s =
          .next (settle (faulted .markerFailed none slot.sequence d)))

/-! ### Faults -/

/-- Entry to FAULTED, from IDLE, ACTIVE or ROLLING_BACK (R81): the ACTIVE epoch, the closer and the rollback end, with
the completion records of R82 and R100; the capture order empties and issued captures take the mark FAULT (R58);
journaled entries that have issued nothing are withdrawn (R35); M becomes 0 and the claims and the space waiter go
(R21). Issued operations keep their records and tags; those of the closer, the rollback and the anchor writer lose their
requester, and say of their work what R159 needs: epoch and sequence of a slot, the anchor write, or the granule, epoch
and sequence of a restore. The tag requests of captures, markers, rollback, anchors and withdrawn entries are cancelled
(R146). Of the OPEN writes those issued are kept, and the others dropped (R81; the list is the model's, log entry 15).
Elsewhere nothing further changes. The ABORTED responses come in the acceptance order, which is the model's choice (log
entry 6). -/
def Obligations.EntryToFaultedEndsTheWork : Prop :=
  ∀ s : State,
    (¬(s.controller = .idle ∨ s.controller = .active ∨ s.controller = .rollingBack) → enterFaulted s = s) ∧
    (s.controller = .idle ∨ s.controller = .active ∨ s.controller = .rollingBack →
      let t := enterFaulted s
      let issued (p : Nat) : Bool := s.ops.any (fun o => decide (o.requester = .capture p ∧ o.phase ≠ .waiting))
      let leaving := s.writeQueue.filter (fun e =>
        decide (e.cls = .journaled) &&
          match e.stage with
          | .queued => true
          | .spaceWait => true
          | .ready => true
          | .undoRead => !issued e.place
          | .undoWrite => !issued e.place
          | .issued => false)
      t.controller = .faulted ∧ t.active = none ∧ t.closing = none ∧ t.rollback = none ∧ t.filter = [] ∧
      t.captureOrder = [] ∧ t.autoTimer = none ∧ t.pendingAuto = false ∧ t.claims = [] ∧ t.spaceWaiter = none ∧
      t.ring = s.ring.map (fun g => { g with owed := 0 }) ∧
      t.captures = (s.captures.filter (fun c => issued c.entry)).map (fun c => { c with mark := .fault }) ∧
      t.writeQueue = s.writeQueue.filter (fun e => e.place ∉ leaving.map (·.place)) ∧
      t.responses = s.responses ++ (leaving.filter (fun e => e.ack = .waited)).map
        (fun e => { tag := e.tag, status := .aborted, data := [] }) ∧
      t.usedTags = s.usedTags ∧
      t.openWrites = s.openWrites.filter (fun w =>
        s.ops.any (fun o => decide (o.requester = .openSlot w.epoch w.slot.sequence ∧ o.phase ≠ .waiting))) ∧
      (let work (o : Op) : Option Orphan :=
         match o.requester, s.closing, s.rollback with
         | .closer, some c, _ => c.closeSlot.map (fun slot => .slot c.record.number slot.sequence)
         | .anchor w, _, _ => some (.anchor w)
         | .rollback, _, some b =>
           match o.kind with
           | .slotRead => some .slotRead
           | .restoreWrite => some (.restore o.address b.epoch ((b.cursor.map (·.sequence)).getD 0))
           | _ => b.abandonSlot.map (fun slot => .slot b.epoch slot.sequence)
         | _, _, _ => none
       let cancelled (o : Op) : Bool :=
         decide (o.phase = .waiting) &&
           match o.requester with
           | .capture _ => true | .openSlot _ _ => true | .closer => true | .rollback => true | .anchor _ => true
           | .entry p => decide (p ∈ leaving.map (·.place))
           | _ => false
       t.ops = (s.ops.filter (fun o => !cancelled o)).map (fun o =>
         match work o with
         | some x => { o with requester := .orphan x }
         | none => o)) ∧
      (∀ o ∈ t.ops, o.phase = .waiting →
        (∀ p, o.requester ≠ .capture p) ∧ (∀ epoch sequence, o.requester ≠ .openSlot epoch sequence) ∧
        o.requester ≠ .closer ∧ o.requester ≠ .rollback ∧ ∀ w, o.requester ≠ .anchor w) ∧
      t.latched.getLsbD 1 = true ∧
      (s.completions.length ≤ 2 →
        t.completions = s.completions ++
          (match s.closing with
           | some c =>
             if c.stage = .reclaiming then []
             else
               [{ op := .commit, trigger := c.trigger, epoch := some c.record.number, outcome := .failed,
                  countA := c.record.undoCount, countB := c.record.failed, discarded := 0 }]
           | none => []) ++
          (match s.rollback with
           | some b =>
             [{ op := .abort, trigger := .host, epoch := some b.epoch, outcome := .failed, countA := b.undoCount,
                countB := b.restored, discarded := 0 }]
           | none => [])) ∧
      t.nextEpoch = s.nextEpoch ∧ t.lastCommitted = s.lastCommitted ∧ t.inFlight = s.inFlight ∧
      t.readTracker = s.readTracker ∧ t.incidents = s.incidents ∧ t.hold = s.hold ∧ t.geometry = s.geometry)

/-- The final answer to an operation left without a requester: OK of a slot makes it durable, OK of an anchor write
puts it in force, a failure logs the incident of its kind; no state but that changes (R159). What a change enables
follows in its event, in the order that is the model's choice (`settle`, log entry 4). -/
def Obligations.OperationsWithoutRequesterEndQuietly : Prop :=
  ∀ (t : DownTag) (o : Op) (work : Orphan) (data : List Beat) (s : State),
    s.answering t o → o.requester = .orphan work →
      let d : State := { s with ops := s.ops.filter (fun x => x.ready ≠ o.ready) }
      let logged (kind : IncidentKind) (address epoch : Option Word) (sequence : Word) : State :=
        addIncident
          { kind := kind, address := address, initiator := none, tag := none, epoch := epoch,
            sequence := some sequence } d
      let ok (x : State) : Prop :=
        (o.kind.reads = false ∨ data.length = o.beats) →
          exec (.orphanOperationAnswer t .ok data) s = .next (settle x)
      let fail (x : State) : Prop := exec (.orphanOperationAnswer t .fail data) s = .next (settle x)
      match work with
      | .slot epoch sequence =>
        ok { d with ring := s.ring.map (fun g => g.acknowledged sequence) } ∧
        fail (logged .markerFailed none (some epoch) sequence)
      | .anchor w =>
        ok { d with ring := s.ring.map (fun g => { g with
          inForce := some (w.copy, w.generation), tail := w.tail, tailSeq := w.tailSeq,
          occupancy := (g.nextSeq - w.tailSeq).toNat }) } ∧
        fail (logged .anchorFailed none none w.tailSeq)
      | .restore granule epoch sequence =>
        ok d ∧ fail (logged .restoreFailed (some granule) (some epoch) sequence)
      | .slotRead => ok d ∧ fail d

/-! ### Mounting -/

/-- A mount request that waits in FAULTED starts when no journaled entry remains and no slot, anchor or restore write
is in flight (R83), whatever event brings that about (the model's choice where it is a BUSY answer, log entry 31),
with a new record of trigger HOST (R104, R106); it drops the ring kept and cancels the HELD journal writes (R106,
R160), and the OPEN writes kept with them (the model's choice, log entry 15). A mount that ends without mounting
leaves UNMOUNTED with the ring discarded, and its completion record (R117, R118, R20); that it leaves no geometry in
use is DEDUCED (log entry 25). What a change enables follows in its event, in the order that is the model's choice
(`settle`, log entry 4). -/
def Obligations.MountsStartFromFaultedAndFailToUnmounted : Prop :=
  (∀ (q : MountRequest) (s : State), s.mountRequest = some q →
     let clear : Prop :=
       s.controller = .faulted ∧ (∀ e ∈ s.writeQueue, e.cls ≠ .journaled) ∧
       ∀ o ∈ s.ops, o.flying = true → o.kind ≠ .slotWrite ∧ o.kind ≠ .anchorWrite ∧ o.kind ≠ .restoreWrite
     let m : Mount :=
       { kind := q.kind, trigger := .host, seed := q.seed, phase := .readingAnchors, findingA := .absent,
         findingB := .absent, chosen := none, scanCursor := none, scanned := 0, shape := .empty, lastClose := none,
         highest := none, scanHead := none, openEpoch := none, cursor := none, step := none, contents := none,
         restored := 0, abandonSlot := none, startPoint := s.nextPlace }
     let started : State :=
       { s with
         controller := .mounting, mount := some m,
         geometry := some { base := s.settings.journalBase, slots := s.settings.journalSlots.toNat }, ring := none,
         openWrites := [], claims := [], mountRequest := none, nextEpoch := none, lastCommitted := none,
         ops := s.ops.filter (fun o : Op =>
           !(o.isHeld && (o.kind == .slotWrite || o.kind == .anchorWrite || o.kind == .restoreWrite))) }
     (clear → exec .mountFromFaulted s = .next (settle started)) ∧
     (¬clear → exec .mountFromFaulted s = .next s)) ∧
  (∀ (m : Mount) (outcome : LongOutcome) (s : State), s.mount = some m →
     endMount outcome s =
       addCompletion
         (match m.kind with
          | .format =>
            { op := .format, trigger := m.trigger, epoch := none, outcome := outcome, countA := 0, countB := 0,
              discarded := 0 }
          | .recover =>
            { op := .recover, trigger := m.trigger, epoch := m.openEpoch.map (·.1), outcome := outcome,
              countA := m.scanned, countB := m.restored, discarded := 0 })
         { s with mount := none, controller := .unmounted, ring := none, geometry := none, claims := [] })

/-- The final answer to an anchor read is kept until the other has answered (R107). Then FORMAT chooses its instance,
sets the ring up and claims anchor B (R108, R20); RECOVER chooses an anchor by the table of R110, checks it for sense
and begins its scan, or ends. An anchor is well formed with a valid check, the kind code 10 and an instance other than
0, and valid where its word 3 is JOURNAL_SLOTS too (R7). The engine asks for the read of each anchor that has not
answered and is not asked for, of 8 beats at JOURNAL_BASE and at JOURNAL_BASE + 64 (R107, R1), A first (log entry 4),
and for none in a hold (R119). What a change enables follows in its event, in the order that is the model's choice
(`settle`, log entry 4). Generations exactly 2^31 apart are left free (log entry 8). -/
def Obligations.AnchorReadsDecideTheMount : Prop :=
  (∀ (m : Mount) (q : Geometry) (s : State), s.mount = some m → m.phase = .readingAnchors → s.geometry = some q →
    let wantsA : Prop := m.findingA = .absent ∧ ∀ o ∈ s.ops, o.requester ≠ .mountAnchor .a
    let wantsB : Prop := m.findingB = .absent ∧ ∀ o ∈ s.ops, o.requester ≠ .mountAnchor .b
    (s.hold = .run → wantsA → mountIssue? s = some (request .anchorRead (.mountAnchor .a) q.base 8 [] [] s)) ∧
    (s.hold = .run → ¬wantsA → wantsB →
      mountIssue? s = some (request .anchorRead (.mountAnchor .b) (q.base + 64) 8 [] [] s)) ∧
    (s.hold ≠ .run ∨ (¬wantsA ∧ ¬wantsB) → mountIssue? s = none)) ∧
  ∀ (t : DownTag) (o : Op) (copy : Copy) (m : Mount) (answer : FinalAnswer) (data : List Beat) (s : State),
    s.answering t o → o.requester = .mountAnchor copy → o.kind = .anchorRead → s.mount = some m →
    m.phase = .readingAnchors →
      let d : State := { s with ops := s.ops.filter (fun x => x.ready ≠ o.ready) }
      let found : Finding :=
        if answer = .ok ∧ data.length = o.beats then .read (wordsOfBeats data) else .failed
      let m' : Mount := match copy with | .a => { m with findingA := found } | .b => { m with findingB := found }
      let kept : State := { d with mount := some m' }
      let ends (x : State) : Prop := exec (.anchorReadAnswer t answer data) s = .next (settle x)
      let wellFormed (ws : List Word) : Prop :=
        validCheck ws = true ∧ (ws.getD 0 0).extractLsb' 0 8 = 10#8 ∧ ws.getD 1 0 ≠ 0
      let valid (ws : List Word) : Prop := wellFormed ws ∧ (ws.getD 3 0).toNat = s.slotsInUse
      let finds (ws : List Word) : Prop := (m'.findingA = .read ws ∨ m'.findingB = .read ws) ∧ valid ws
      let scans (c : Copy) (ws : List Word) : Prop :=
        let tail := (ws.getD 4 0).toNat
        if 2 ≤ tail ∧ tail < s.slotsInUse ∧ ws.getD 6 0 ≠ 0 then
          ends { kept with mount := some { m' with
            chosen := some
              { copy := c, journal := ws.getD 1 0, generation := ws.getD 2 0, tail := tail, tailSeq := ws.getD 5 0,
                nextEpoch := ws.getD 6 0, lastCommitted := ws.getD 7 0 },
            scanCursor := some { position := tail, sequence := ws.getD 5 0 }, scanned := 0, shape := .empty,
            phase := .scanning } }
        else
          ends (endMount .structureError (addIncident
            { kind := .slotInvalid, address := none, initiator := none, tag := none, epoch := none,
              sequence := some (ws.getD 5 0) } kept))
      (m'.findingA = .absent ∨ m'.findingB = .absent → ends kept) ∧
      (m'.findingA ≠ .absent → m'.findingB ≠ .absent → m.kind = .format →
        ∃ journal : Word,
          ends { kept with
            spaceWaiter := none,
            ring := some
              { tail := 2, tailSeq := 1, head := 2, occupancy := 0, nextSeq := 1, journal := journal, owed := 0,
                inForce := none, frontier := none, unacked := [], startSeq := 1 },
            mount := some { m' with phase := .writingB },
            claims := s.claims ++
              [{ claimant := .mount, tail := 2, tailSeq := 1, numbers := some (1, 0), target := some (.b, 1) }] } ∧
          ((∀ ws, ¬finds ws) → journal = if m.seed = 0 then 1 else m.seed) ∧
          (∀ ws, finds ws → (∀ vs, finds vs → (vs.getD 1 0).toNat ≤ (ws.getD 1 0).toNat) →
            journal = if ws.getD 1 0 = 0xFFFFFFFF#32 then 1 else ws.getD 1 0 + 1)) ∧
      (m.kind = .recover →
        (m'.findingA ≠ .absent → m'.findingB ≠ .absent → (m'.findingA = .failed ∨ m'.findingB = .failed) →
          ends (endMount .failed kept)) ∧
        (∀ a b, m'.findingA = .read a → m'.findingB = .read b →
          (¬wellFormed a → ¬wellFormed b → ends (endMount .noAnchor kept)) ∧
          (wellFormed a ∨ wellFormed b → ¬valid a → ¬valid b → ends (endMount .geometryMismatch kept)) ∧
          (valid a → ¬valid b → scans .a a) ∧
          (¬valid a → valid b → scans .b b) ∧
          (valid a → valid b → a.getD 1 0 ≠ b.getD 1 0 → scans .b b) ∧
          (valid a → valid b → a.getD 1 0 = b.getD 1 0 → later (a.getD 2 0) (b.getD 2 0) = true → scans .a a) ∧
          (valid a → valid b → a.getD 1 0 = b.getD 1 0 → later (b.getD 2 0) (a.getD 2 0) = true → scans .b b) ∧
          (valid a → valid b → a.getD 1 0 = b.getD 1 0 → a.getD 2 0 = b.getD 2 0 → scans .a a)))

/-- A slot of the scan that is valid at its position and continues the shape by the table of R112 is counted and the
scan goes on, or stops at the C-th slot; one that is not valid stops the scan at its position; one that is valid and
fits no row ends the recovery STRUCTURE_ERROR; a read that fails ends it FAILED (R111, R112, R117, R118). The engine
asks for the read of the slot at the position it scans (R111), and not in a hold (R119). What a change enables follows
in its event, in the order that is the model's choice (`settle`, log entry 4). -/
def Obligations.ScanAcceptsSlotsByTheirShape : Prop :=
  (∀ (code : Byte) (e n x : Word) (k : Nat) (good : Bool),
    let answers (sh : Shape) (next : Option Shape) : Prop := sh.accept code e n good = next
    answers .empty (if code = 1 ∧ e ≠ 0 then some (.firstOpen e 0) else none) ∧
    answers (.firstOpen x k)
      (if code = 2 ∧ e = x ∧ n = BitVec.ofNat 32 (k + 1) ∧ good = true then some (.firstOpen x (k + 1))
       else if (code = 3 ∨ code = 4) ∧ e = x ∧ n = BitVec.ofNat 32 k then some (.firstEnded x)
       else none) ∧
    answers (.firstEnded x) (if code = 1 ∧ later e x = true then some (.secondOpen e 0) else none) ∧
    answers (.secondOpen x k)
      (if code = 2 ∧ e = x ∧ n = BitVec.ofNat 32 (k + 1) ∧ good = true then some (.secondOpen x (k + 1))
       else if (code = 3 ∨ code = 4) ∧ e = x ∧ n = BitVec.ofNat 32 k then some (.secondEnded x)
       else none) ∧
    answers (.secondEnded x) none) ∧
  (∀ (m : Mount) (at_ : SlotRef) (q : Geometry) (s : State),
    s.mount = some m → m.phase = .scanning → m.scanCursor = some at_ → s.geometry = some q →
      (s.hold = .run → (∀ o ∈ s.ops, o.requester ≠ .mount) →
        mountIssue? s = some
          (request .slotRead .mount (q.base + BitVec.ofNat 32 (64 * at_.position)) 8 [] [] s)) ∧
      (s.hold ≠ .run ∨ (∃ o ∈ s.ops, o.requester = .mount) → mountIssue? s = none)) ∧
  ∀ (t : DownTag) (o : Op) (m : Mount) (at_ : SlotRef) (c : Chosen) (q : Geometry) (data : List Beat) (s : State),
    s.answering t o → o.requester = .mount → o.kind = .slotRead → s.mount = some m → m.phase = .scanning →
    m.scanCursor = some at_ → m.chosen = some c → s.geometry = some q →
      let d : State := { s with ops := s.ops.filter (fun x => x.ready ≠ o.ready) }
      let ws := wordsOfBeats data
      let ends (x : State) : Prop := exec (.scanSlotReadAnswer t .ok data) s = .next (settle x)
      let valid : Prop := validCheck ws = true ∧ ws.getD 1 0 = c.journal ∧ ws.getD 2 0 = at_.sequence
      let good : Bool :=
        decide ((ws.getD 4 0).toNat % 32 = 0) && !inJournalArea q.base q.slots (ws.getD 4 0)
      let next : Option Shape := m.shape.accept (byteOf (ws.getD 0 0) 0) (ws.getD 3 0) (ws.getD 5 0) good
      let after : SlotRef := ⟨if at_.position + 1 < q.slots then at_.position + 1 else 2, at_.sequence + 1⟩
      (data.length = o.beats → ¬valid → ends (scanStops at_ d)) ∧
      (data.length = o.beats → valid → next = none →
        ends (endMount .structureError (addIncident
          { kind := .slotInvalid, address := none, initiator := none, tag := none, epoch := some (ws.getD 3 0),
            sequence := some (ws.getD 2 0) } { d with mount := some { m with scanned := m.scanned + 1 } }))) ∧
      (data.length = o.beats → valid → ∀ sh, next = some sh →
        let m' : Mount :=
          { m with
            scanned := m.scanned + 1, shape := sh,
            lastClose := if byteOf (ws.getD 0 0) 0 = 3 then some (ws.getD 3 0) else m.lastClose,
            highest := if byteOf (ws.getD 0 0) 0 = 1 then some (ws.getD 3 0) else m.highest }
        (m.scanned + 1 < q.slots - 2 → ends { d with mount := some { m' with scanCursor := some after } }) ∧
        (q.slots - 2 ≤ m.scanned + 1 → ends (scanStops after { d with mount := some m' }))) ∧
      (data.length ≠ o.beats → ends (endMount .failed d)) ∧
      exec (.scanSlotReadAnswer t .fail data) s = .next (settle (endMount .failed d))

/-- When the scan stops, the ring is set up at the scan head with every sequence C further on (R113, R20). With no
epoch open the mount goes on to its anchor, with the tail and the epoch numbers of R116; an open epoch adds 1 to M,
and its UNDO slots are replayed from the newest, or its ABANDON is allocated where it has none (R114, R115). Numbers
exactly 2^31 apart are left free (log entry 9). -/
def Obligations.ScanHeadSetsUpTheRing : Prop :=
  ∀ (head : SlotRef) (m : Mount) (c : Chosen) (q : Geometry) (s : State),
    s.mount = some m → m.chosen = some c → s.geometry = some q → s.controller = .mounting →
      let first := head.sequence + BitVec.ofNat 32 (q.slots - 2)
      let ring (owed : Nat) : Ring :=
        { tail := head.position, tailSeq := first, head := head.position, occupancy := 0, nextSeq := first,
          journal := c.journal, owed := owed, inForce := some (c.copy, c.generation), frontier := none, unacked := [],
          startSeq := first }
      let stopped : Mount := { m with scanHead := some head, openEpoch := m.shape.openEpoch, scanCursor := none }
      let base : State := { s with spaceWaiter := none }
      (m.shape.openEpoch = none →
        scanStops head s = { base with
          ring := some (ring 0), mount := some { stopped with phase := .anchoring },
          claims := s.claims ++
            [{ claimant := .mount, tail := head.position, tailSeq := first, target := none,
               numbers := some (recoveredNextEpoch c.nextEpoch m.highest, m.lastClose.getD c.lastCommitted) }] }) ∧
      (∀ e, m.shape.openEpoch = some (e, 0) →
        scanStops head s = { base with
          ring := some { (ring 0).allocated q.slots with owed := 0 },
          mount := some { stopped with
            phase := .abandoning, cursor := none, step := none, contents := none,
            abandonSlot := some ⟨head.position, first⟩ } }) ∧
      (∀ e k, m.shape.openEpoch = some (e, k + 1) →
        scanStops head s = { base with
          ring := some (ring 1),
          mount := some { stopped with
            phase := .replaying, step := some .reading,
            cursor := some
              { position := if head.position ≤ 2 then q.slots - 1 else head.position - 1,
                sequence := head.sequence - 1, ordinal := k + 1 } } }) ∧
      (∀ a n : Word, recoveredNextEpoch a none = a ∧
        (let next : Word := if n = 0xFFFFFFFF#32 then 1 else n + 1
         (later next a = true → recoveredNextEpoch a (some n) = next) ∧
         (later a next = true ∨ a = next → recoveredNextEpoch a (some n) = a)))

/-- The final answers to a recovery's replay: a slot read back that passes the tests of R92 is kept and waits, one
that fails them logs SLOT_INVALID; an acknowledged restore counts and steps back, or after ordinal 1 allocates the
ABANDON; an acknowledged ABANDON is durable and raises the claim of R116; a failure logs its incident, and the
recovery ends FAILED (R114, R115, R118). The engine asks for the read of the slot at its cursor (R114), and for the
write of its ABANDON, whose count is that of the granules restored (R115, R4); in a hold it asks for neither (R119).
What a change enables follows in its event, in the order that is the model's choice (`settle`, log entry 4). -/
def Obligations.RecoveryAnswersReplayTheEpoch : Prop :=
  (∀ (m : Mount) (g : Ring) (q : Geometry) (s : State), s.mount = some m → s.ring = some g → s.geometry = some q →
    let place (position : Nat) : Word := q.base + BitVec.ofNat 32 (64 * position)
    (∀ c : Cursor, m.phase = .replaying → m.step = some .reading → m.cursor = some c →
      (s.hold = .run → (∀ o ∈ s.ops, o.requester ≠ .mount) →
        mountIssue? s = some (request .slotRead .mount (place c.position) 8 [] [] s)) ∧
      (s.hold ≠ .run ∨ (∃ o ∈ s.ops, o.requester = .mount) → mountIssue? s = none)) ∧
    (∀ (slot : SlotRef) (e : Word) (k : Nat),
      m.phase = .abandoning → m.abandonSlot = some slot → m.openEpoch = some (e, k) →
      (s.hold = .run → (∀ o ∈ s.ops, o.requester ≠ .mount) →
        mountIssue? s = some (request .slotWrite .mount (place slot.position) 8 (List.replicate 8 0xFF#8)
          (beatsOfWords (markerSlot .abandon g.journal slot.sequence e (BitVec.ofNat 32 m.restored))) s)) ∧
      (s.hold ≠ .run ∨ (∃ o ∈ s.ops, o.requester = .mount) → mountIssue? s = none))) ∧
  ∀ (t : DownTag) (o : Op) (m : Mount) (h : Chosen) (e : Word) (k : Nat) (g : Ring) (q : Geometry) (s : State),
    s.answering t o → o.requester = .mount → s.mount = some m → m.phase ≠ .scanning → m.chosen = some h →
    m.openEpoch = some (e, k) → s.ring = some g → s.geometry = some q → s.controller = .mounting →
      let d : State := { s with ops := s.ops.filter (fun x => x.ready ≠ o.ready) }
      let failed (kind : IncidentKind) (address : Option Word) (sequence : Word) : State :=
        endMount .failed (addIncident
          { kind := kind, address := address, initiator := none, tag := none, epoch := some e,
            sequence := some sequence } d)
      (∀ (c : Cursor) (data : List Beat), m.cursor = some c →
        let ws := wordsOfBeats data
        let good : Prop :=
          validCheck ws = true ∧ byteOf (ws.getD 0 0) 0 = 2 ∧ ws.getD 1 0 = h.journal ∧ ws.getD 2 0 = c.sequence ∧
          ws.getD 3 0 = e ∧ ws.getD 5 0 = BitVec.ofNat 32 c.ordinal ∧ (ws.getD 4 0).toNat % 32 = 0 ∧
          inJournalArea q.base q.slots (ws.getD 4 0) = false
        (o.kind = .slotRead → data.length = o.beats → good →
          exec (.mountReplayReadAnswer t .ok data) s =
            .next (settle { d with mount := some { m with contents := some ws, step := some .waiting } })) ∧
        (o.kind = .slotRead → data.length = o.beats → ¬good →
          exec (.mountReplayReadAnswer t .ok data) s = .next (settle (failed .slotInvalid none c.sequence))) ∧
        (o.kind = .slotRead →
          exec (.mountReplayReadAnswer t .fail data) s =
            .next (settle (failed .restoreFailed (some o.address) c.sequence))) ∧
        (o.kind = .restoreWrite → 1 < c.ordinal →
          exec (.mountRestoreAnswer t .ok) s = .next (settle { d with
            mount := some { m with
              restored := m.restored + 1, contents := none, step := some .reading,
              cursor := some
                { position := if c.position ≤ 2 then q.slots - 1 else c.position - 1, sequence := c.sequence - 1,
                  ordinal := c.ordinal - 1 } } })) ∧
        (o.kind = .restoreWrite → c.ordinal ≤ 1 →
          exec (.mountRestoreAnswer t .ok) s = .next (settle { d with
            ring := some { g.allocated q.slots with owed := g.owed - 1 },
            mount := some { m with
              restored := m.restored + 1, phase := .abandoning, cursor := none, step := none, contents := none,
              abandonSlot := some ⟨g.head, g.nextSeq⟩ } })) ∧
        (o.kind = .restoreWrite →
          exec (.mountRestoreAnswer t .fail) s =
            .next (settle (failed .restoreFailed (some o.address) c.sequence)))) ∧
      (∀ slot : SlotRef, o.kind = .slotWrite → m.abandonSlot = some slot →
        exec (.mountAbandonAnswer t .ok) s = .next (settle { d with
          ring := some (g.acknowledged slot.sequence), mount := some { m with phase := .anchoring },
          claims := s.claims ++
            [{ claimant := .mount, tail := g.head, tailSeq := g.nextSeq, target := none,
               numbers := some (recoveredNextEpoch h.nextEpoch m.highest, m.lastClose.getD h.lastCommitted) }] }) ∧
        exec (.mountAbandonAnswer t .fail) s = .next (settle (failed .markerFailed none slot.sequence)))
end

