-- ==== Sys2Proof/Laws/State.lean ====
section
/-! SUPPORT. What each basic update of the state leaves as it was: one rewrite rule for each field, stated together for
each update, so that no later proof unfolds a record update. -/

namespace Sys2Proof.Machine

@[simp] theorem respond_rest (s : State) (tag : UpTag) (st : Status) (data : List Beat) :
    (respond tag st data s).pending = s.pending ∧ (respond tag st data s).rstHeld = s.rstHeld ∧
      (respond tag st data s).pfw = s.pfw ∧ (respond tag st data s).mcs = s.mcs ∧
      (respond tag st data s).timebase = s.timebase ∧ (respond tag st data s).settings = s.settings ∧
      (respond tag st data s).regions = s.regions ∧ (respond tag st data s).nextPlace = s.nextPlace ∧
      (respond tag st data s).writeQueue = s.writeQueue ∧ (respond tag st data s).inFlight = s.inFlight ∧
      (respond tag st data s).readTracker = s.readTracker ∧ (respond tag st data s).filter = s.filter ∧
      (respond tag st data s).captureOrder = s.captureOrder ∧ (respond tag st data s).captures = s.captures ∧
      (respond tag st data s).geometry = s.geometry ∧ (respond tag st data s).ring = s.ring ∧
      (respond tag st data s).spaceWaiter = s.spaceWaiter ∧ (respond tag st data s).claims = s.claims ∧
      (respond tag st data s).openWrites = s.openWrites ∧ (respond tag st data s).controller = s.controller ∧
      (respond tag st data s).active = s.active ∧ (respond tag st data s).closing = s.closing ∧
      (respond tag st data s).nextEpoch = s.nextEpoch ∧ (respond tag st data s).lastCommitted = s.lastCommitted ∧
      (respond tag st data s).autoTimer = s.autoTimer ∧ (respond tag st data s).mountRequest = s.mountRequest ∧
      (respond tag st data s).rollback = s.rollback ∧ (respond tag st data s).mount = s.mount ∧
      (respond tag st data s).ops = s.ops ∧ (respond tag st data s).quarantined = s.quarantined ∧
      (respond tag st data s).nextReady = s.nextReady ∧ (respond tag st data s).latched = s.latched ∧
      (respond tag st data s).incidents = s.incidents ∧ (respond tag st data s).drops = s.drops ∧
      (respond tag st data s).completions = s.completions ∧ (respond tag st data s).hold = s.hold ∧
      (respond tag st data s).modeInForce = s.modeInForce ∧ (respond tag st data s).pendingAuto = s.pendingAuto ∧
      (respond tag st data s).response = s.response ∧ (respond tag st data s).transaction = s.transaction ∧
      (respond tag st data s).mdi = s.mdi ∧ (respond tag st data s).drain = s.drain ∧
      (respond tag st data s).issues = s.issues := by and_intros <;> rfl

@[simp] theorem latch_rest (s : State) (k : AlertKind) :
    (latch k s).pending = s.pending ∧ (latch k s).rstHeld = s.rstHeld ∧ (latch k s).pfw = s.pfw ∧
      (latch k s).mcs = s.mcs ∧ (latch k s).timebase = s.timebase ∧ (latch k s).settings = s.settings ∧
      (latch k s).regions = s.regions ∧ (latch k s).nextPlace = s.nextPlace ∧ (latch k s).writeQueue = s.writeQueue ∧
      (latch k s).inFlight = s.inFlight ∧ (latch k s).readTracker = s.readTracker ∧ (latch k s).filter = s.filter ∧
      (latch k s).captureOrder = s.captureOrder ∧ (latch k s).captures = s.captures ∧
      (latch k s).geometry = s.geometry ∧ (latch k s).ring = s.ring ∧ (latch k s).spaceWaiter = s.spaceWaiter ∧
      (latch k s).claims = s.claims ∧ (latch k s).openWrites = s.openWrites ∧ (latch k s).controller = s.controller ∧
      (latch k s).active = s.active ∧ (latch k s).closing = s.closing ∧ (latch k s).nextEpoch = s.nextEpoch ∧
      (latch k s).lastCommitted = s.lastCommitted ∧ (latch k s).autoTimer = s.autoTimer ∧
      (latch k s).mountRequest = s.mountRequest ∧ (latch k s).rollback = s.rollback ∧ (latch k s).mount = s.mount ∧
      (latch k s).ops = s.ops ∧ (latch k s).quarantined = s.quarantined ∧ (latch k s).nextReady = s.nextReady ∧
      (latch k s).incidents = s.incidents ∧ (latch k s).drops = s.drops ∧ (latch k s).completions = s.completions ∧
      (latch k s).hold = s.hold ∧ (latch k s).modeInForce = s.modeInForce ∧ (latch k s).pendingAuto = s.pendingAuto ∧
      (latch k s).response = s.response ∧ (latch k s).transaction = s.transaction ∧ (latch k s).mdi = s.mdi ∧
      (latch k s).drain = s.drain ∧ (latch k s).responses = s.responses ∧ (latch k s).issues = s.issues := by and_intros <;> rfl

@[simp] theorem setEntry_rest (s : State) (p : Nat) (f : WriteEntry → WriteEntry) :
    (s.setEntry p f).pending = s.pending ∧ (s.setEntry p f).rstHeld = s.rstHeld ∧ (s.setEntry p f).pfw = s.pfw ∧
      (s.setEntry p f).mcs = s.mcs ∧ (s.setEntry p f).timebase = s.timebase ∧
      (s.setEntry p f).settings = s.settings ∧ (s.setEntry p f).regions = s.regions ∧
      (s.setEntry p f).nextPlace = s.nextPlace ∧ (s.setEntry p f).inFlight = s.inFlight ∧
      (s.setEntry p f).readTracker = s.readTracker ∧ (s.setEntry p f).filter = s.filter ∧
      (s.setEntry p f).captureOrder = s.captureOrder ∧ (s.setEntry p f).captures = s.captures ∧
      (s.setEntry p f).geometry = s.geometry ∧ (s.setEntry p f).ring = s.ring ∧
      (s.setEntry p f).spaceWaiter = s.spaceWaiter ∧ (s.setEntry p f).claims = s.claims ∧
      (s.setEntry p f).openWrites = s.openWrites ∧ (s.setEntry p f).controller = s.controller ∧
      (s.setEntry p f).active = s.active ∧ (s.setEntry p f).closing = s.closing ∧
      (s.setEntry p f).nextEpoch = s.nextEpoch ∧ (s.setEntry p f).lastCommitted = s.lastCommitted ∧
      (s.setEntry p f).autoTimer = s.autoTimer ∧ (s.setEntry p f).mountRequest = s.mountRequest ∧
      (s.setEntry p f).rollback = s.rollback ∧ (s.setEntry p f).mount = s.mount ∧ (s.setEntry p f).ops = s.ops ∧
      (s.setEntry p f).quarantined = s.quarantined ∧ (s.setEntry p f).nextReady = s.nextReady ∧
      (s.setEntry p f).latched = s.latched ∧ (s.setEntry p f).incidents = s.incidents ∧
      (s.setEntry p f).drops = s.drops ∧ (s.setEntry p f).completions = s.completions ∧
      (s.setEntry p f).hold = s.hold ∧ (s.setEntry p f).modeInForce = s.modeInForce ∧
      (s.setEntry p f).pendingAuto = s.pendingAuto ∧ (s.setEntry p f).response = s.response ∧
      (s.setEntry p f).transaction = s.transaction ∧ (s.setEntry p f).mdi = s.mdi ∧
      (s.setEntry p f).drain = s.drain ∧ (s.setEntry p f).responses = s.responses ∧
      (s.setEntry p f).issues = s.issues := by and_intros <;> rfl

@[simp] theorem setOp_rest (s : State) (r : Nat) (f : Op → Op) :
    (s.setOp r f).pending = s.pending ∧ (s.setOp r f).rstHeld = s.rstHeld ∧ (s.setOp r f).pfw = s.pfw ∧
      (s.setOp r f).mcs = s.mcs ∧ (s.setOp r f).timebase = s.timebase ∧ (s.setOp r f).settings = s.settings ∧
      (s.setOp r f).regions = s.regions ∧ (s.setOp r f).nextPlace = s.nextPlace ∧
      (s.setOp r f).writeQueue = s.writeQueue ∧ (s.setOp r f).inFlight = s.inFlight ∧
      (s.setOp r f).readTracker = s.readTracker ∧ (s.setOp r f).filter = s.filter ∧
      (s.setOp r f).captureOrder = s.captureOrder ∧ (s.setOp r f).captures = s.captures ∧
      (s.setOp r f).geometry = s.geometry ∧ (s.setOp r f).ring = s.ring ∧ (s.setOp r f).spaceWaiter = s.spaceWaiter ∧
      (s.setOp r f).claims = s.claims ∧ (s.setOp r f).openWrites = s.openWrites ∧
      (s.setOp r f).controller = s.controller ∧ (s.setOp r f).active = s.active ∧ (s.setOp r f).closing = s.closing ∧
      (s.setOp r f).nextEpoch = s.nextEpoch ∧ (s.setOp r f).lastCommitted = s.lastCommitted ∧
      (s.setOp r f).autoTimer = s.autoTimer ∧ (s.setOp r f).mountRequest = s.mountRequest ∧
      (s.setOp r f).rollback = s.rollback ∧ (s.setOp r f).mount = s.mount ∧
      (s.setOp r f).quarantined = s.quarantined ∧ (s.setOp r f).nextReady = s.nextReady ∧
      (s.setOp r f).latched = s.latched ∧ (s.setOp r f).incidents = s.incidents ∧ (s.setOp r f).drops = s.drops ∧
      (s.setOp r f).completions = s.completions ∧ (s.setOp r f).hold = s.hold ∧
      (s.setOp r f).modeInForce = s.modeInForce ∧ (s.setOp r f).pendingAuto = s.pendingAuto ∧
      (s.setOp r f).response = s.response ∧ (s.setOp r f).transaction = s.transaction ∧ (s.setOp r f).mdi = s.mdi ∧
      (s.setOp r f).drain = s.drain ∧ (s.setOp r f).responses = s.responses ∧ (s.setOp r f).issues = s.issues := by and_intros <;> rfl

@[simp] theorem dropOp_rest (s : State) (r : Nat) :
    (s.dropOp r).pending = s.pending ∧ (s.dropOp r).rstHeld = s.rstHeld ∧ (s.dropOp r).pfw = s.pfw ∧
      (s.dropOp r).mcs = s.mcs ∧ (s.dropOp r).timebase = s.timebase ∧ (s.dropOp r).settings = s.settings ∧
      (s.dropOp r).regions = s.regions ∧ (s.dropOp r).nextPlace = s.nextPlace ∧
      (s.dropOp r).writeQueue = s.writeQueue ∧ (s.dropOp r).inFlight = s.inFlight ∧
      (s.dropOp r).readTracker = s.readTracker ∧ (s.dropOp r).filter = s.filter ∧
      (s.dropOp r).captureOrder = s.captureOrder ∧ (s.dropOp r).captures = s.captures ∧
      (s.dropOp r).geometry = s.geometry ∧ (s.dropOp r).ring = s.ring ∧ (s.dropOp r).spaceWaiter = s.spaceWaiter ∧
      (s.dropOp r).claims = s.claims ∧ (s.dropOp r).openWrites = s.openWrites ∧
      (s.dropOp r).controller = s.controller ∧ (s.dropOp r).active = s.active ∧ (s.dropOp r).closing = s.closing ∧
      (s.dropOp r).nextEpoch = s.nextEpoch ∧ (s.dropOp r).lastCommitted = s.lastCommitted ∧
      (s.dropOp r).autoTimer = s.autoTimer ∧ (s.dropOp r).mountRequest = s.mountRequest ∧
      (s.dropOp r).rollback = s.rollback ∧ (s.dropOp r).mount = s.mount ∧ (s.dropOp r).quarantined = s.quarantined ∧
      (s.dropOp r).nextReady = s.nextReady ∧ (s.dropOp r).latched = s.latched ∧
      (s.dropOp r).incidents = s.incidents ∧ (s.dropOp r).drops = s.drops ∧
      (s.dropOp r).completions = s.completions ∧ (s.dropOp r).hold = s.hold ∧
      (s.dropOp r).modeInForce = s.modeInForce ∧ (s.dropOp r).pendingAuto = s.pendingAuto ∧
      (s.dropOp r).response = s.response ∧ (s.dropOp r).transaction = s.transaction ∧ (s.dropOp r).mdi = s.mdi ∧
      (s.dropOp r).drain = s.drain ∧ (s.dropOp r).responses = s.responses ∧ (s.dropOp r).issues = s.issues := by and_intros <;> rfl

@[simp] theorem cancelWaiting_rest (s : State) (p : Op → Bool) :
    (s.cancelWaiting p).pending = s.pending ∧ (s.cancelWaiting p).rstHeld = s.rstHeld ∧
      (s.cancelWaiting p).pfw = s.pfw ∧ (s.cancelWaiting p).mcs = s.mcs ∧ (s.cancelWaiting p).timebase = s.timebase ∧
      (s.cancelWaiting p).settings = s.settings ∧ (s.cancelWaiting p).regions = s.regions ∧
      (s.cancelWaiting p).nextPlace = s.nextPlace ∧ (s.cancelWaiting p).writeQueue = s.writeQueue ∧
      (s.cancelWaiting p).inFlight = s.inFlight ∧ (s.cancelWaiting p).readTracker = s.readTracker ∧
      (s.cancelWaiting p).filter = s.filter ∧ (s.cancelWaiting p).captureOrder = s.captureOrder ∧
      (s.cancelWaiting p).captures = s.captures ∧ (s.cancelWaiting p).geometry = s.geometry ∧
      (s.cancelWaiting p).ring = s.ring ∧ (s.cancelWaiting p).spaceWaiter = s.spaceWaiter ∧
      (s.cancelWaiting p).claims = s.claims ∧ (s.cancelWaiting p).openWrites = s.openWrites ∧
      (s.cancelWaiting p).controller = s.controller ∧ (s.cancelWaiting p).active = s.active ∧
      (s.cancelWaiting p).closing = s.closing ∧ (s.cancelWaiting p).nextEpoch = s.nextEpoch ∧
      (s.cancelWaiting p).lastCommitted = s.lastCommitted ∧ (s.cancelWaiting p).autoTimer = s.autoTimer ∧
      (s.cancelWaiting p).mountRequest = s.mountRequest ∧ (s.cancelWaiting p).rollback = s.rollback ∧
      (s.cancelWaiting p).mount = s.mount ∧ (s.cancelWaiting p).quarantined = s.quarantined ∧
      (s.cancelWaiting p).nextReady = s.nextReady ∧ (s.cancelWaiting p).latched = s.latched ∧
      (s.cancelWaiting p).incidents = s.incidents ∧ (s.cancelWaiting p).drops = s.drops ∧
      (s.cancelWaiting p).completions = s.completions ∧ (s.cancelWaiting p).hold = s.hold ∧
      (s.cancelWaiting p).modeInForce = s.modeInForce ∧ (s.cancelWaiting p).pendingAuto = s.pendingAuto ∧
      (s.cancelWaiting p).response = s.response ∧ (s.cancelWaiting p).transaction = s.transaction ∧
      (s.cancelWaiting p).mdi = s.mdi ∧ (s.cancelWaiting p).drain = s.drain ∧
      (s.cancelWaiting p).responses = s.responses ∧ (s.cancelWaiting p).issues = s.issues := by and_intros <;> rfl

@[simp] theorem setRing_rest (s : State) (f : Ring → Ring) :
    (s.setRing f).pending = s.pending ∧ (s.setRing f).rstHeld = s.rstHeld ∧ (s.setRing f).pfw = s.pfw ∧
      (s.setRing f).mcs = s.mcs ∧ (s.setRing f).timebase = s.timebase ∧ (s.setRing f).settings = s.settings ∧
      (s.setRing f).regions = s.regions ∧ (s.setRing f).nextPlace = s.nextPlace ∧
      (s.setRing f).writeQueue = s.writeQueue ∧ (s.setRing f).inFlight = s.inFlight ∧
      (s.setRing f).readTracker = s.readTracker ∧ (s.setRing f).filter = s.filter ∧
      (s.setRing f).captureOrder = s.captureOrder ∧ (s.setRing f).captures = s.captures ∧
      (s.setRing f).geometry = s.geometry ∧ (s.setRing f).spaceWaiter = s.spaceWaiter ∧
      (s.setRing f).claims = s.claims ∧ (s.setRing f).openWrites = s.openWrites ∧
      (s.setRing f).controller = s.controller ∧ (s.setRing f).active = s.active ∧ (s.setRing f).closing = s.closing ∧
      (s.setRing f).nextEpoch = s.nextEpoch ∧ (s.setRing f).lastCommitted = s.lastCommitted ∧
      (s.setRing f).autoTimer = s.autoTimer ∧ (s.setRing f).mountRequest = s.mountRequest ∧
      (s.setRing f).rollback = s.rollback ∧ (s.setRing f).mount = s.mount ∧ (s.setRing f).ops = s.ops ∧
      (s.setRing f).quarantined = s.quarantined ∧ (s.setRing f).nextReady = s.nextReady ∧
      (s.setRing f).latched = s.latched ∧ (s.setRing f).incidents = s.incidents ∧ (s.setRing f).drops = s.drops ∧
      (s.setRing f).completions = s.completions ∧ (s.setRing f).hold = s.hold ∧
      (s.setRing f).modeInForce = s.modeInForce ∧ (s.setRing f).pendingAuto = s.pendingAuto ∧
      (s.setRing f).response = s.response ∧ (s.setRing f).transaction = s.transaction ∧ (s.setRing f).mdi = s.mdi ∧
      (s.setRing f).drain = s.drain ∧ (s.setRing f).responses = s.responses ∧ (s.setRing f).issues = s.issues := by and_intros <;> rfl

@[simp] theorem mapEpoch_rest (s : State) (n : Word) (f : EpochRecord → EpochRecord) :
    (s.mapEpoch n f).pending = s.pending ∧ (s.mapEpoch n f).rstHeld = s.rstHeld ∧ (s.mapEpoch n f).pfw = s.pfw ∧
      (s.mapEpoch n f).mcs = s.mcs ∧ (s.mapEpoch n f).timebase = s.timebase ∧
      (s.mapEpoch n f).settings = s.settings ∧ (s.mapEpoch n f).regions = s.regions ∧
      (s.mapEpoch n f).nextPlace = s.nextPlace ∧ (s.mapEpoch n f).writeQueue = s.writeQueue ∧
      (s.mapEpoch n f).inFlight = s.inFlight ∧ (s.mapEpoch n f).readTracker = s.readTracker ∧
      (s.mapEpoch n f).filter = s.filter ∧ (s.mapEpoch n f).captureOrder = s.captureOrder ∧
      (s.mapEpoch n f).captures = s.captures ∧ (s.mapEpoch n f).geometry = s.geometry ∧
      (s.mapEpoch n f).ring = s.ring ∧ (s.mapEpoch n f).spaceWaiter = s.spaceWaiter ∧
      (s.mapEpoch n f).claims = s.claims ∧ (s.mapEpoch n f).openWrites = s.openWrites ∧
      (s.mapEpoch n f).controller = s.controller ∧ (s.mapEpoch n f).nextEpoch = s.nextEpoch ∧
      (s.mapEpoch n f).lastCommitted = s.lastCommitted ∧ (s.mapEpoch n f).autoTimer = s.autoTimer ∧
      (s.mapEpoch n f).mountRequest = s.mountRequest ∧ (s.mapEpoch n f).rollback = s.rollback ∧
      (s.mapEpoch n f).mount = s.mount ∧ (s.mapEpoch n f).ops = s.ops ∧
      (s.mapEpoch n f).quarantined = s.quarantined ∧ (s.mapEpoch n f).nextReady = s.nextReady ∧
      (s.mapEpoch n f).latched = s.latched ∧ (s.mapEpoch n f).incidents = s.incidents ∧
      (s.mapEpoch n f).drops = s.drops ∧ (s.mapEpoch n f).completions = s.completions ∧
      (s.mapEpoch n f).hold = s.hold ∧ (s.mapEpoch n f).modeInForce = s.modeInForce ∧
      (s.mapEpoch n f).pendingAuto = s.pendingAuto ∧ (s.mapEpoch n f).response = s.response ∧
      (s.mapEpoch n f).transaction = s.transaction ∧ (s.mapEpoch n f).mdi = s.mdi ∧
      (s.mapEpoch n f).drain = s.drain ∧ (s.mapEpoch n f).responses = s.responses ∧
      (s.mapEpoch n f).issues = s.issues := by and_intros <;> rfl

@[simp] theorem setCapture_rest (s : State) (p : Nat) (f : Capture → Capture) :
    (s.setCapture p f).pending = s.pending ∧ (s.setCapture p f).rstHeld = s.rstHeld ∧
      (s.setCapture p f).pfw = s.pfw ∧ (s.setCapture p f).mcs = s.mcs ∧ (s.setCapture p f).timebase = s.timebase ∧
      (s.setCapture p f).settings = s.settings ∧ (s.setCapture p f).regions = s.regions ∧
      (s.setCapture p f).nextPlace = s.nextPlace ∧ (s.setCapture p f).writeQueue = s.writeQueue ∧
      (s.setCapture p f).inFlight = s.inFlight ∧ (s.setCapture p f).readTracker = s.readTracker ∧
      (s.setCapture p f).filter = s.filter ∧ (s.setCapture p f).captureOrder = s.captureOrder ∧
      (s.setCapture p f).geometry = s.geometry ∧ (s.setCapture p f).ring = s.ring ∧
      (s.setCapture p f).spaceWaiter = s.spaceWaiter ∧ (s.setCapture p f).claims = s.claims ∧
      (s.setCapture p f).openWrites = s.openWrites ∧ (s.setCapture p f).controller = s.controller ∧
      (s.setCapture p f).active = s.active ∧ (s.setCapture p f).closing = s.closing ∧
      (s.setCapture p f).nextEpoch = s.nextEpoch ∧ (s.setCapture p f).lastCommitted = s.lastCommitted ∧
      (s.setCapture p f).autoTimer = s.autoTimer ∧ (s.setCapture p f).mountRequest = s.mountRequest ∧
      (s.setCapture p f).rollback = s.rollback ∧ (s.setCapture p f).mount = s.mount ∧
      (s.setCapture p f).ops = s.ops ∧ (s.setCapture p f).quarantined = s.quarantined ∧
      (s.setCapture p f).nextReady = s.nextReady ∧ (s.setCapture p f).latched = s.latched ∧
      (s.setCapture p f).incidents = s.incidents ∧ (s.setCapture p f).drops = s.drops ∧
      (s.setCapture p f).completions = s.completions ∧ (s.setCapture p f).hold = s.hold ∧
      (s.setCapture p f).modeInForce = s.modeInForce ∧ (s.setCapture p f).pendingAuto = s.pendingAuto ∧
      (s.setCapture p f).response = s.response ∧ (s.setCapture p f).transaction = s.transaction ∧
      (s.setCapture p f).mdi = s.mdi ∧ (s.setCapture p f).drain = s.drain ∧
      (s.setCapture p f).responses = s.responses ∧ (s.setCapture p f).issues = s.issues := by and_intros <;> rfl

@[simp] theorem endCapture_rest (s : State) (p : Nat) :
    (endCapture p s).pending = s.pending ∧ (endCapture p s).rstHeld = s.rstHeld ∧ (endCapture p s).pfw = s.pfw ∧
      (endCapture p s).mcs = s.mcs ∧ (endCapture p s).timebase = s.timebase ∧
      (endCapture p s).settings = s.settings ∧ (endCapture p s).regions = s.regions ∧
      (endCapture p s).nextPlace = s.nextPlace ∧ (endCapture p s).writeQueue = s.writeQueue ∧
      (endCapture p s).inFlight = s.inFlight ∧ (endCapture p s).readTracker = s.readTracker ∧
      (endCapture p s).filter = s.filter ∧ (endCapture p s).captureOrder = s.captureOrder ∧
      (endCapture p s).geometry = s.geometry ∧ (endCapture p s).ring = s.ring ∧
      (endCapture p s).spaceWaiter = s.spaceWaiter ∧ (endCapture p s).claims = s.claims ∧
      (endCapture p s).openWrites = s.openWrites ∧ (endCapture p s).controller = s.controller ∧
      (endCapture p s).active = s.active ∧ (endCapture p s).closing = s.closing ∧
      (endCapture p s).nextEpoch = s.nextEpoch ∧ (endCapture p s).lastCommitted = s.lastCommitted ∧
      (endCapture p s).autoTimer = s.autoTimer ∧ (endCapture p s).mountRequest = s.mountRequest ∧
      (endCapture p s).rollback = s.rollback ∧ (endCapture p s).mount = s.mount ∧ (endCapture p s).ops = s.ops ∧
      (endCapture p s).quarantined = s.quarantined ∧ (endCapture p s).nextReady = s.nextReady ∧
      (endCapture p s).latched = s.latched ∧ (endCapture p s).incidents = s.incidents ∧
      (endCapture p s).drops = s.drops ∧ (endCapture p s).completions = s.completions ∧
      (endCapture p s).hold = s.hold ∧ (endCapture p s).modeInForce = s.modeInForce ∧
      (endCapture p s).pendingAuto = s.pendingAuto ∧ (endCapture p s).response = s.response ∧
      (endCapture p s).transaction = s.transaction ∧ (endCapture p s).mdi = s.mdi ∧
      (endCapture p s).drain = s.drain ∧ (endCapture p s).responses = s.responses ∧
      (endCapture p s).issues = s.issues := by and_intros <;> rfl

@[simp] theorem setRollback_rest (s : State) (f : Rollback → Rollback) :
    (s.setRollback f).pending = s.pending ∧ (s.setRollback f).rstHeld = s.rstHeld ∧ (s.setRollback f).pfw = s.pfw ∧
      (s.setRollback f).mcs = s.mcs ∧ (s.setRollback f).timebase = s.timebase ∧
      (s.setRollback f).settings = s.settings ∧ (s.setRollback f).regions = s.regions ∧
      (s.setRollback f).nextPlace = s.nextPlace ∧ (s.setRollback f).writeQueue = s.writeQueue ∧
      (s.setRollback f).inFlight = s.inFlight ∧ (s.setRollback f).readTracker = s.readTracker ∧
      (s.setRollback f).filter = s.filter ∧ (s.setRollback f).captureOrder = s.captureOrder ∧
      (s.setRollback f).captures = s.captures ∧ (s.setRollback f).geometry = s.geometry ∧
      (s.setRollback f).ring = s.ring ∧ (s.setRollback f).spaceWaiter = s.spaceWaiter ∧
      (s.setRollback f).claims = s.claims ∧ (s.setRollback f).openWrites = s.openWrites ∧
      (s.setRollback f).controller = s.controller ∧ (s.setRollback f).active = s.active ∧
      (s.setRollback f).closing = s.closing ∧ (s.setRollback f).nextEpoch = s.nextEpoch ∧
      (s.setRollback f).lastCommitted = s.lastCommitted ∧ (s.setRollback f).autoTimer = s.autoTimer ∧
      (s.setRollback f).mountRequest = s.mountRequest ∧ (s.setRollback f).mount = s.mount ∧
      (s.setRollback f).ops = s.ops ∧ (s.setRollback f).quarantined = s.quarantined ∧
      (s.setRollback f).nextReady = s.nextReady ∧ (s.setRollback f).latched = s.latched ∧
      (s.setRollback f).incidents = s.incidents ∧ (s.setRollback f).drops = s.drops ∧
      (s.setRollback f).completions = s.completions ∧ (s.setRollback f).hold = s.hold ∧
      (s.setRollback f).modeInForce = s.modeInForce ∧ (s.setRollback f).pendingAuto = s.pendingAuto ∧
      (s.setRollback f).response = s.response ∧ (s.setRollback f).transaction = s.transaction ∧
      (s.setRollback f).mdi = s.mdi ∧ (s.setRollback f).drain = s.drain ∧ (s.setRollback f).responses = s.responses ∧
      (s.setRollback f).issues = s.issues := by and_intros <;> rfl

@[simp] theorem setMount_rest (s : State) (f : Mount → Mount) :
    (s.setMount f).pending = s.pending ∧ (s.setMount f).rstHeld = s.rstHeld ∧ (s.setMount f).pfw = s.pfw ∧
      (s.setMount f).mcs = s.mcs ∧ (s.setMount f).timebase = s.timebase ∧ (s.setMount f).settings = s.settings ∧
      (s.setMount f).regions = s.regions ∧ (s.setMount f).nextPlace = s.nextPlace ∧
      (s.setMount f).writeQueue = s.writeQueue ∧ (s.setMount f).inFlight = s.inFlight ∧
      (s.setMount f).readTracker = s.readTracker ∧ (s.setMount f).filter = s.filter ∧
      (s.setMount f).captureOrder = s.captureOrder ∧ (s.setMount f).captures = s.captures ∧
      (s.setMount f).geometry = s.geometry ∧ (s.setMount f).ring = s.ring ∧
      (s.setMount f).spaceWaiter = s.spaceWaiter ∧ (s.setMount f).claims = s.claims ∧
      (s.setMount f).openWrites = s.openWrites ∧ (s.setMount f).controller = s.controller ∧
      (s.setMount f).active = s.active ∧ (s.setMount f).closing = s.closing ∧
      (s.setMount f).nextEpoch = s.nextEpoch ∧ (s.setMount f).lastCommitted = s.lastCommitted ∧
      (s.setMount f).autoTimer = s.autoTimer ∧ (s.setMount f).mountRequest = s.mountRequest ∧
      (s.setMount f).rollback = s.rollback ∧ (s.setMount f).ops = s.ops ∧
      (s.setMount f).quarantined = s.quarantined ∧ (s.setMount f).nextReady = s.nextReady ∧
      (s.setMount f).latched = s.latched ∧ (s.setMount f).incidents = s.incidents ∧ (s.setMount f).drops = s.drops ∧
      (s.setMount f).completions = s.completions ∧ (s.setMount f).hold = s.hold ∧
      (s.setMount f).modeInForce = s.modeInForce ∧ (s.setMount f).pendingAuto = s.pendingAuto ∧
      (s.setMount f).response = s.response ∧ (s.setMount f).transaction = s.transaction ∧
      (s.setMount f).mdi = s.mdi ∧ (s.setMount f).drain = s.drain ∧ (s.setMount f).responses = s.responses ∧
      (s.setMount f).issues = s.issues := by and_intros <;> rfl

@[simp] theorem raiseClaim_rest (s : State) (c : Claim) :
    (raiseClaim c s).pending = s.pending ∧ (raiseClaim c s).rstHeld = s.rstHeld ∧ (raiseClaim c s).pfw = s.pfw ∧
      (raiseClaim c s).mcs = s.mcs ∧ (raiseClaim c s).timebase = s.timebase ∧
      (raiseClaim c s).settings = s.settings ∧ (raiseClaim c s).regions = s.regions ∧
      (raiseClaim c s).nextPlace = s.nextPlace ∧ (raiseClaim c s).writeQueue = s.writeQueue ∧
      (raiseClaim c s).inFlight = s.inFlight ∧ (raiseClaim c s).readTracker = s.readTracker ∧
      (raiseClaim c s).filter = s.filter ∧ (raiseClaim c s).captureOrder = s.captureOrder ∧
      (raiseClaim c s).captures = s.captures ∧ (raiseClaim c s).geometry = s.geometry ∧
      (raiseClaim c s).ring = s.ring ∧ (raiseClaim c s).spaceWaiter = s.spaceWaiter ∧
      (raiseClaim c s).openWrites = s.openWrites ∧ (raiseClaim c s).controller = s.controller ∧
      (raiseClaim c s).active = s.active ∧ (raiseClaim c s).closing = s.closing ∧
      (raiseClaim c s).nextEpoch = s.nextEpoch ∧ (raiseClaim c s).lastCommitted = s.lastCommitted ∧
      (raiseClaim c s).autoTimer = s.autoTimer ∧ (raiseClaim c s).mountRequest = s.mountRequest ∧
      (raiseClaim c s).rollback = s.rollback ∧ (raiseClaim c s).mount = s.mount ∧ (raiseClaim c s).ops = s.ops ∧
      (raiseClaim c s).quarantined = s.quarantined ∧ (raiseClaim c s).nextReady = s.nextReady ∧
      (raiseClaim c s).latched = s.latched ∧ (raiseClaim c s).incidents = s.incidents ∧
      (raiseClaim c s).drops = s.drops ∧ (raiseClaim c s).completions = s.completions ∧
      (raiseClaim c s).hold = s.hold ∧ (raiseClaim c s).modeInForce = s.modeInForce ∧
      (raiseClaim c s).pendingAuto = s.pendingAuto ∧ (raiseClaim c s).response = s.response ∧
      (raiseClaim c s).transaction = s.transaction ∧ (raiseClaim c s).mdi = s.mdi ∧
      (raiseClaim c s).drain = s.drain ∧ (raiseClaim c s).responses = s.responses ∧
      (raiseClaim c s).issues = s.issues := by and_intros <;> rfl

@[simp] theorem endClaim_rest (s : State) (k : Claimant) :
    (endClaim k s).pending = s.pending ∧ (endClaim k s).rstHeld = s.rstHeld ∧ (endClaim k s).pfw = s.pfw ∧
      (endClaim k s).mcs = s.mcs ∧ (endClaim k s).timebase = s.timebase ∧ (endClaim k s).settings = s.settings ∧
      (endClaim k s).regions = s.regions ∧ (endClaim k s).nextPlace = s.nextPlace ∧
      (endClaim k s).writeQueue = s.writeQueue ∧ (endClaim k s).inFlight = s.inFlight ∧
      (endClaim k s).readTracker = s.readTracker ∧ (endClaim k s).filter = s.filter ∧
      (endClaim k s).captureOrder = s.captureOrder ∧ (endClaim k s).captures = s.captures ∧
      (endClaim k s).geometry = s.geometry ∧ (endClaim k s).ring = s.ring ∧
      (endClaim k s).spaceWaiter = s.spaceWaiter ∧ (endClaim k s).openWrites = s.openWrites ∧
      (endClaim k s).controller = s.controller ∧ (endClaim k s).active = s.active ∧
      (endClaim k s).closing = s.closing ∧ (endClaim k s).nextEpoch = s.nextEpoch ∧
      (endClaim k s).lastCommitted = s.lastCommitted ∧ (endClaim k s).autoTimer = s.autoTimer ∧
      (endClaim k s).mountRequest = s.mountRequest ∧ (endClaim k s).rollback = s.rollback ∧
      (endClaim k s).mount = s.mount ∧ (endClaim k s).ops = s.ops ∧ (endClaim k s).quarantined = s.quarantined ∧
      (endClaim k s).nextReady = s.nextReady ∧ (endClaim k s).latched = s.latched ∧
      (endClaim k s).incidents = s.incidents ∧ (endClaim k s).drops = s.drops ∧
      (endClaim k s).completions = s.completions ∧ (endClaim k s).hold = s.hold ∧
      (endClaim k s).modeInForce = s.modeInForce ∧ (endClaim k s).pendingAuto = s.pendingAuto ∧
      (endClaim k s).response = s.response ∧ (endClaim k s).transaction = s.transaction ∧
      (endClaim k s).mdi = s.mdi ∧ (endClaim k s).drain = s.drain ∧ (endClaim k s).responses = s.responses ∧
      (endClaim k s).issues = s.issues := by and_intros <;> rfl

@[simp] theorem dequeue_rest (s : State) (p : Nat) :
    (dequeue p s).pending = s.pending ∧ (dequeue p s).rstHeld = s.rstHeld ∧ (dequeue p s).pfw = s.pfw ∧
      (dequeue p s).mcs = s.mcs ∧ (dequeue p s).timebase = s.timebase ∧ (dequeue p s).settings = s.settings ∧
      (dequeue p s).regions = s.regions ∧ (dequeue p s).nextPlace = s.nextPlace ∧
      (dequeue p s).inFlight = s.inFlight ∧ (dequeue p s).readTracker = s.readTracker ∧
      (dequeue p s).filter = s.filter ∧ (dequeue p s).captureOrder = s.captureOrder ∧
      (dequeue p s).captures = s.captures ∧ (dequeue p s).geometry = s.geometry ∧ (dequeue p s).ring = s.ring ∧
      (dequeue p s).spaceWaiter = s.spaceWaiter ∧ (dequeue p s).claims = s.claims ∧
      (dequeue p s).openWrites = s.openWrites ∧ (dequeue p s).controller = s.controller ∧
      (dequeue p s).active = s.active ∧ (dequeue p s).closing = s.closing ∧ (dequeue p s).nextEpoch = s.nextEpoch ∧
      (dequeue p s).lastCommitted = s.lastCommitted ∧ (dequeue p s).autoTimer = s.autoTimer ∧
      (dequeue p s).mountRequest = s.mountRequest ∧ (dequeue p s).rollback = s.rollback ∧
      (dequeue p s).mount = s.mount ∧ (dequeue p s).quarantined = s.quarantined ∧
      (dequeue p s).nextReady = s.nextReady ∧ (dequeue p s).latched = s.latched ∧
      (dequeue p s).incidents = s.incidents ∧ (dequeue p s).drops = s.drops ∧
      (dequeue p s).completions = s.completions ∧ (dequeue p s).hold = s.hold ∧
      (dequeue p s).modeInForce = s.modeInForce ∧ (dequeue p s).pendingAuto = s.pendingAuto ∧
      (dequeue p s).response = s.response ∧ (dequeue p s).transaction = s.transaction ∧ (dequeue p s).mdi = s.mdi ∧
      (dequeue p s).drain = s.drain ∧ (dequeue p s).responses = s.responses ∧ (dequeue p s).issues = s.issues := by and_intros <;> rfl

@[simp] theorem endOpenWrite_rest (s : State) (epoch sequence : Word) :
    (endOpenWrite epoch sequence s).pending = s.pending ∧ (endOpenWrite epoch sequence s).rstHeld = s.rstHeld ∧
      (endOpenWrite epoch sequence s).pfw = s.pfw ∧ (endOpenWrite epoch sequence s).mcs = s.mcs ∧
      (endOpenWrite epoch sequence s).timebase = s.timebase ∧ (endOpenWrite epoch sequence s).settings = s.settings ∧
      (endOpenWrite epoch sequence s).regions = s.regions ∧ (endOpenWrite epoch sequence s).nextPlace = s.nextPlace ∧
      (endOpenWrite epoch sequence s).writeQueue = s.writeQueue ∧
      (endOpenWrite epoch sequence s).inFlight = s.inFlight ∧
      (endOpenWrite epoch sequence s).readTracker = s.readTracker ∧
      (endOpenWrite epoch sequence s).filter = s.filter ∧
      (endOpenWrite epoch sequence s).captureOrder = s.captureOrder ∧
      (endOpenWrite epoch sequence s).captures = s.captures ∧ (endOpenWrite epoch sequence s).geometry = s.geometry ∧
      (endOpenWrite epoch sequence s).ring = s.ring ∧ (endOpenWrite epoch sequence s).spaceWaiter = s.spaceWaiter ∧
      (endOpenWrite epoch sequence s).claims = s.claims ∧ (endOpenWrite epoch sequence s).controller = s.controller ∧
      (endOpenWrite epoch sequence s).active = s.active ∧ (endOpenWrite epoch sequence s).closing = s.closing ∧
      (endOpenWrite epoch sequence s).nextEpoch = s.nextEpoch ∧
      (endOpenWrite epoch sequence s).lastCommitted = s.lastCommitted ∧
      (endOpenWrite epoch sequence s).autoTimer = s.autoTimer ∧
      (endOpenWrite epoch sequence s).mountRequest = s.mountRequest ∧
      (endOpenWrite epoch sequence s).rollback = s.rollback ∧ (endOpenWrite epoch sequence s).mount = s.mount ∧
      (endOpenWrite epoch sequence s).ops = s.ops ∧ (endOpenWrite epoch sequence s).quarantined = s.quarantined ∧
      (endOpenWrite epoch sequence s).nextReady = s.nextReady ∧ (endOpenWrite epoch sequence s).latched = s.latched ∧
      (endOpenWrite epoch sequence s).incidents = s.incidents ∧ (endOpenWrite epoch sequence s).drops = s.drops ∧
      (endOpenWrite epoch sequence s).completions = s.completions ∧ (endOpenWrite epoch sequence s).hold = s.hold ∧
      (endOpenWrite epoch sequence s).modeInForce = s.modeInForce ∧
      (endOpenWrite epoch sequence s).pendingAuto = s.pendingAuto ∧
      (endOpenWrite epoch sequence s).response = s.response ∧
      (endOpenWrite epoch sequence s).transaction = s.transaction ∧ (endOpenWrite epoch sequence s).mdi = s.mdi ∧
      (endOpenWrite epoch sequence s).drain = s.drain ∧ (endOpenWrite epoch sequence s).responses = s.responses ∧
      (endOpenWrite epoch sequence s).issues = s.issues := by and_intros <;> rfl

@[simp] theorem dropFront_rest (s : State) :
    (s.dropFront).rstHeld = s.rstHeld ∧ (s.dropFront).pfw = s.pfw ∧ (s.dropFront).mcs = s.mcs ∧
      (s.dropFront).timebase = s.timebase ∧ (s.dropFront).settings = s.settings ∧ (s.dropFront).regions = s.regions ∧
      (s.dropFront).nextPlace = s.nextPlace ∧ (s.dropFront).writeQueue = s.writeQueue ∧
      (s.dropFront).inFlight = s.inFlight ∧ (s.dropFront).readTracker = s.readTracker ∧
      (s.dropFront).filter = s.filter ∧ (s.dropFront).captureOrder = s.captureOrder ∧
      (s.dropFront).captures = s.captures ∧ (s.dropFront).geometry = s.geometry ∧ (s.dropFront).ring = s.ring ∧
      (s.dropFront).spaceWaiter = s.spaceWaiter ∧ (s.dropFront).claims = s.claims ∧
      (s.dropFront).openWrites = s.openWrites ∧ (s.dropFront).controller = s.controller ∧
      (s.dropFront).active = s.active ∧ (s.dropFront).closing = s.closing ∧ (s.dropFront).nextEpoch = s.nextEpoch ∧
      (s.dropFront).lastCommitted = s.lastCommitted ∧ (s.dropFront).autoTimer = s.autoTimer ∧
      (s.dropFront).mountRequest = s.mountRequest ∧ (s.dropFront).rollback = s.rollback ∧
      (s.dropFront).mount = s.mount ∧ (s.dropFront).ops = s.ops ∧ (s.dropFront).quarantined = s.quarantined ∧
      (s.dropFront).nextReady = s.nextReady ∧ (s.dropFront).latched = s.latched ∧
      (s.dropFront).incidents = s.incidents ∧ (s.dropFront).drops = s.drops ∧
      (s.dropFront).completions = s.completions ∧ (s.dropFront).hold = s.hold ∧
      (s.dropFront).modeInForce = s.modeInForce ∧ (s.dropFront).pendingAuto = s.pendingAuto ∧
      (s.dropFront).response = s.response ∧ (s.dropFront).transaction = s.transaction ∧ (s.dropFront).mdi = s.mdi ∧
      (s.dropFront).drain = s.drain ∧ (s.dropFront).responses = s.responses ∧ (s.dropFront).issues = s.issues := by and_intros <;> rfl

@[simp] theorem addIncident_rest (s : State) (i : Incident) :
    (addIncident i s).pending = s.pending ∧ (addIncident i s).rstHeld = s.rstHeld ∧ (addIncident i s).pfw = s.pfw ∧
      (addIncident i s).mcs = s.mcs ∧ (addIncident i s).timebase = s.timebase ∧
      (addIncident i s).settings = s.settings ∧ (addIncident i s).regions = s.regions ∧
      (addIncident i s).nextPlace = s.nextPlace ∧ (addIncident i s).writeQueue = s.writeQueue ∧
      (addIncident i s).inFlight = s.inFlight ∧ (addIncident i s).readTracker = s.readTracker ∧
      (addIncident i s).filter = s.filter ∧ (addIncident i s).captureOrder = s.captureOrder ∧
      (addIncident i s).captures = s.captures ∧ (addIncident i s).geometry = s.geometry ∧
      (addIncident i s).ring = s.ring ∧ (addIncident i s).spaceWaiter = s.spaceWaiter ∧
      (addIncident i s).claims = s.claims ∧ (addIncident i s).openWrites = s.openWrites ∧
      (addIncident i s).controller = s.controller ∧ (addIncident i s).active = s.active ∧
      (addIncident i s).closing = s.closing ∧ (addIncident i s).nextEpoch = s.nextEpoch ∧
      (addIncident i s).lastCommitted = s.lastCommitted ∧ (addIncident i s).autoTimer = s.autoTimer ∧
      (addIncident i s).mountRequest = s.mountRequest ∧ (addIncident i s).rollback = s.rollback ∧
      (addIncident i s).mount = s.mount ∧ (addIncident i s).ops = s.ops ∧
      (addIncident i s).quarantined = s.quarantined ∧ (addIncident i s).nextReady = s.nextReady ∧
      (addIncident i s).completions = s.completions ∧ (addIncident i s).hold = s.hold ∧
      (addIncident i s).modeInForce = s.modeInForce ∧ (addIncident i s).pendingAuto = s.pendingAuto ∧
      (addIncident i s).response = s.response ∧ (addIncident i s).transaction = s.transaction ∧
      (addIncident i s).mdi = s.mdi ∧ (addIncident i s).drain = s.drain ∧ (addIncident i s).responses = s.responses ∧
      (addIncident i s).issues = s.issues := by
  unfold addIncident latch
  split <;> simp

@[simp] theorem addCompletion_rest (s : State) (c : Completion) :
    (addCompletion c s).pending = s.pending ∧ (addCompletion c s).rstHeld = s.rstHeld ∧
      (addCompletion c s).pfw = s.pfw ∧ (addCompletion c s).mcs = s.mcs ∧ (addCompletion c s).timebase = s.timebase ∧
      (addCompletion c s).settings = s.settings ∧ (addCompletion c s).regions = s.regions ∧
      (addCompletion c s).nextPlace = s.nextPlace ∧ (addCompletion c s).writeQueue = s.writeQueue ∧
      (addCompletion c s).inFlight = s.inFlight ∧ (addCompletion c s).readTracker = s.readTracker ∧
      (addCompletion c s).filter = s.filter ∧ (addCompletion c s).captureOrder = s.captureOrder ∧
      (addCompletion c s).captures = s.captures ∧ (addCompletion c s).geometry = s.geometry ∧
      (addCompletion c s).ring = s.ring ∧ (addCompletion c s).spaceWaiter = s.spaceWaiter ∧
      (addCompletion c s).claims = s.claims ∧ (addCompletion c s).openWrites = s.openWrites ∧
      (addCompletion c s).controller = s.controller ∧ (addCompletion c s).active = s.active ∧
      (addCompletion c s).closing = s.closing ∧ (addCompletion c s).nextEpoch = s.nextEpoch ∧
      (addCompletion c s).lastCommitted = s.lastCommitted ∧ (addCompletion c s).autoTimer = s.autoTimer ∧
      (addCompletion c s).mountRequest = s.mountRequest ∧ (addCompletion c s).rollback = s.rollback ∧
      (addCompletion c s).mount = s.mount ∧ (addCompletion c s).ops = s.ops ∧
      (addCompletion c s).quarantined = s.quarantined ∧ (addCompletion c s).nextReady = s.nextReady ∧
      (addCompletion c s).incidents = s.incidents ∧ (addCompletion c s).drops = s.drops ∧
      (addCompletion c s).hold = s.hold ∧ (addCompletion c s).modeInForce = s.modeInForce ∧
      (addCompletion c s).pendingAuto = s.pendingAuto ∧ (addCompletion c s).response = s.response ∧
      (addCompletion c s).transaction = s.transaction ∧ (addCompletion c s).mdi = s.mdi ∧
      (addCompletion c s).drain = s.drain ∧ (addCompletion c s).responses = s.responses ∧
      (addCompletion c s).issues = s.issues := by
  unfold addCompletion latch
  cases s.completions with
  | nil => simp
  | cons o r => simp only []; split <;> simp

@[simp] theorem leaveSafe_rest (s : State) :
    (leaveSafe s).pending = s.pending ∧ (leaveSafe s).rstHeld = s.rstHeld ∧ (leaveSafe s).pfw = s.pfw ∧
      (leaveSafe s).mcs = s.mcs ∧ (leaveSafe s).timebase = s.timebase ∧ (leaveSafe s).settings = s.settings ∧
      (leaveSafe s).regions = s.regions ∧ (leaveSafe s).nextPlace = s.nextPlace ∧
      (leaveSafe s).writeQueue = s.writeQueue ∧ (leaveSafe s).inFlight = s.inFlight ∧
      (leaveSafe s).readTracker = s.readTracker ∧ (leaveSafe s).filter = s.filter ∧
      (leaveSafe s).captureOrder = s.captureOrder ∧ (leaveSafe s).captures = s.captures ∧
      (leaveSafe s).geometry = s.geometry ∧ (leaveSafe s).ring = s.ring ∧ (leaveSafe s).spaceWaiter = s.spaceWaiter ∧
      (leaveSafe s).claims = s.claims ∧ (leaveSafe s).openWrites = s.openWrites ∧
      (leaveSafe s).controller = s.controller ∧ (leaveSafe s).active = s.active ∧ (leaveSafe s).closing = s.closing ∧
      (leaveSafe s).nextEpoch = s.nextEpoch ∧ (leaveSafe s).lastCommitted = s.lastCommitted ∧
      (leaveSafe s).autoTimer = s.autoTimer ∧ (leaveSafe s).mountRequest = s.mountRequest ∧
      (leaveSafe s).rollback = s.rollback ∧ (leaveSafe s).mount = s.mount ∧ (leaveSafe s).ops = s.ops ∧
      (leaveSafe s).quarantined = s.quarantined ∧ (leaveSafe s).nextReady = s.nextReady ∧
      (leaveSafe s).latched = s.latched ∧ (leaveSafe s).incidents = s.incidents ∧ (leaveSafe s).drops = s.drops ∧
      (leaveSafe s).completions = s.completions ∧ (leaveSafe s).modeInForce = s.modeInForce ∧
      (leaveSafe s).pendingAuto = s.pendingAuto ∧ (leaveSafe s).response = s.response ∧
      (leaveSafe s).transaction = s.transaction ∧ (leaveSafe s).mdi = s.mdi ∧ (leaveSafe s).drain = s.drain ∧
      (leaveSafe s).responses = s.responses ∧ (leaveSafe s).issues = s.issues := by
  unfold leaveSafe
  split <;> simp

end Sys2Proof.Machine
end

