-- ==== Sys2Proof/Laws/Moves.lean ====
section
/-! SUPPORT. What a step can do, said once: a view of the state that holds what the conditions of Safety.lean speak of,
and the moves that view can make. Every step is a run of these moves (Laws/Step.lean), so that a condition kept by each
move is kept by every step. -/

namespace Sys2Proof.Machine

/-- What the view keeps of an operation record. -/
structure OpKey where
  ready : Nat
  tag : Option DownTag
  flying : Bool
  entry : Bool
  deriving DecidableEq, Repr

/-- Whether a requester is a write-queue entry. -/
def Requester.isEntry : Requester → Bool
  | .entry _ => true
  | _ => false

/-- The view of an operation record. -/
def Op.key (o : Op) : OpKey := { ready := o.ready, tag := o.phase.tag?, flying := o.flying, entry := o.requester.isEntry }

/-- A DATA_WRITE that waits for its tag, in the view. -/
def OpKey.waitingWrite (k : OpKey) : Bool := k.tag.isNone && k.entry

/-- What the view keeps of the ring: tail sequence, next sequence, occupancy. -/
def Ring.key (r : Ring) : Word × Word × Nat := (r.tailSeq, r.nextSeq, r.occupancy)

/-- The view. -/
structure View where
  settings : Settings
  regions : List (Option Region)
  pfw : Bool
  rstHeld : Bool
  hold : HoldState
  controller : Controller
  active : Bool
  closing : Bool
  rollback : Bool
  mount : Bool
  request : Bool
  timer : Bool
  pendingAuto : Bool
  queue : Nat
  tracker : Nat
  inFlight : Nat
  captures : Nat
  waiter : Bool
  filter : List Word
  ring : Option (Word × Word × Nat)
  ops : List OpKey
  quarantined : List DownTag
  nextReady : Nat
  incidents : Nat
  drops : Nat
  completions : List Nat
  deriving DecidableEq, Repr

/-- The view of a state. -/
def view (s : State) : View where
  settings := s.settings
  regions := s.regions
  pfw := s.pfw
  rstHeld := s.rstHeld
  hold := s.hold
  controller := s.controller
  active := s.active.isSome
  closing := s.closing.isSome
  rollback := s.rollback.isSome
  mount := s.mount.isSome
  request := s.mountRequest.isSome
  timer := s.autoTimer.isSome
  pendingAuto := s.pendingAuto
  queue := s.writeQueue.length
  tracker := s.readTracker.length
  inFlight := s.inFlight.length
  captures := s.captures.length
  waiter := s.spaceWaiter.isSome
  filter := s.filter.map (·.granule)
  ring := s.ring.map Ring.key
  ops := s.ops.map Op.key
  quarantined := s.quarantined
  nextReady := s.nextReady
  incidents := s.incidents.length
  drops := s.drops
  completions := s.completions.map (·.discarded)

/-- The data writes in flight or about to be. -/
def View.load (a : View) : Nat := a.inFlight + (a.ops.filter (·.waitingWrite)).length

/-- No record holds a tag, and it is not QUARANTINED. -/
def View.tagFree (a : View) (t : DownTag) : Prop := t ∉ a.quarantined ∧ ∀ k ∈ a.ops, k.tag ≠ some t

/-- The discarded-before counts after a record joins the completion list (R169). -/
def pushDiscarded : List Nat → List Nat
  | [] => [0]
  | o :: rest => if rest.length + 1 < 4 then (o :: rest) ++ [0] else rest ++ [min (1 + o) 255]

/-- The tags of the IN_FLIGHT records, in the view. -/
def View.flyingTags (a : View) : List DownTag := (a.ops.filter (·.flying)).filterMap (·.tag)

/-- Changes the record of a place in the ready order, in the view. -/
def View.setOp (a : View) (r : Nat) (f : OpKey → OpKey) : View :=
  { a with ops := a.ops.map (fun k => if k.ready = r then f k else k) }

/-- The hold state after an issue (R176). -/
def holdAfterIssue (h : HoldState) : HoldState := if h = .safe then .holding else h

/-- The view with the records that an abort, a commit or a fault ends cleared. -/
def View.endActive (a : View) : View := { a with active := false, filter := [], timer := false, pendingAuto := false }

/-- The view after a reset of any kind, the D-port and the Hold Controller apart. -/
def View.cleared (a : View) : View :=
  { a.endActive with
    queue := 0, tracker := 0, captures := 0, waiter := false, ring := none, controller := .unmounted, closing := false,
    rollback := false, mount := false, request := false, ops := [], incidents := 0, drops := 0, completions := [] }

/-- The moves. -/
inductive Move : View → View → Prop
  | setting {a : View} (t : Settings) (h : a.settings.legal = true → t.legal = true) : Move a { a with settings := t }
  | region {a : View} (i : Nat) (x : Option Region) (h : ∀ r, x = some r → r.legal = true) :
      Move a { a with regions := a.regions.set i x }
  | enqueue {a : View} (h : a.queue < 32) : Move a { a with queue := a.queue + 1 }
  | dequeue {a : View} (n : Nat) (h : n ≤ a.queue) : Move a { a with queue := n }
  | readIn {a : View} (h : a.tracker < 8) : Move a { a with tracker := a.tracker + 1 }
  | readOut {a : View} (n : Nat) (h : n ≤ a.tracker) : Move a { a with tracker := n }
  | landed {a : View} (n : Nat) (h : n ≤ a.inFlight) : Move a { a with inFlight := n }
  | captureIn {a : View} (h : a.captures < 4) (w : a.waiter = false) : Move a { a with captures := a.captures + 1 }
  | captureOut {a : View} (n : Nat) (h : n ≤ a.captures) : Move a { a with captures := n }
  | wait {a : View} (h : a.captures < 4) : Move a { a with waiter := true }
  | granted {a : View} (h : a.waiter = true) : Move a { a with waiter := false, captures := a.captures + 1 }
  | unwait {a : View} : Move a { a with waiter := false }
  | covered {a : View} (g : Word) (h : a.active = true) (n : g ∉ a.filter) (r : a.filter.length < 1024) :
      Move a { a with filter := a.filter ++ [g] }
  | uncovered {a : View} (f : List Word) (h : f.Sublist a.filter) : Move a { a with filter := f }
  | ringGone {a : View} : Move a { a with ring := none }
  | ringSet {a : View} (q : Word) : Move a { a with ring := some (q, q, 0) }
  | allocated {a : View} (t n : Word) (o : Nat) (h : a.ring = some (t, n, o)) :
      Move a { a with ring := some (t, n + 1, o + 1) }
  | anchored {a : View} (t n q : Word) (o : Nat) (h : a.ring = some (t, n, o)) :
      Move a { a with ring := some (q, n, (n - q).toNat) }
  | asked {a : View} (e : Bool) (h : e = true → a.load < 8) :
      Move a { a with ops := a.ops ++ [{ ready := a.nextReady, tag := none, flying := false, entry := e }],
                      nextReady := a.nextReady + 1 }
  | ended {a : View} (l : List OpKey) (h : l.Sublist a.ops) : Move a { a with ops := l }
  | issued {a : View} (k : OpKey) (t : DownTag) (h : k ∈ a.ops) (w : k.tag = none ∧ a.tagFree t ∨ k.tag = some t) :
      Move a { a.setOp k.ready (fun k' => { k' with tag := some t, flying := true }) with
               hold := holdAfterIssue a.hold }
  | issuedWrite {a : View} (k : OpKey) (t : DownTag) (h : k ∈ a.ops) (w : k.tag = none ∧ a.tagFree t)
      (e : k.entry = true) :
      Move a { a.setOp k.ready (fun k' => { k' with tag := some t, flying := true }) with
               hold := holdAfterIssue a.hold, inFlight := a.inFlight + 1 }
  | held {a : View} (k : OpKey) (t : DownTag) (h : k ∈ a.ops) (w : k.tag = some t) :
      Move a (a.setOp k.ready (fun k' => { k' with tag := some t, flying := false }))
  | timedOut {a : View} (k : OpKey) (t : DownTag) (h : k ∈ a.ops) (w : k.tag = some t) :
      Move a { a with ops := a.ops.filter (fun k' => k'.ready != k.ready), quarantined := a.quarantined ++ [t] }
  | late {a : View} (t : DownTag) : Move a { a with quarantined := a.quarantined.filter (fun q => q != t) }
  | incident {a : View} (h : a.incidents < 16) : Move a { a with incidents := a.incidents + 1 }
  | dropped {a : View} : Move a { a with drops := min (a.drops + 1) 255 }
  | popped {a : View} (n : Nat) (h : n ≤ a.incidents) : Move a { a with incidents := n, drops := 0 }
  | completed {a : View} : Move a { a with completions := pushDiscarded a.completions }
  | poppedCompletion {a : View} : Move a { a with completions := a.completions.tail }
  | safe {a : View} (h : a.hold = .holding) (q : ∀ k ∈ a.ops, k.flying = false) : Move a { a with hold := .safe }
  | warned {a : View} : Move a { a with pfw := true }
  | holding {a : View} (h : a.pfw = true) : Move a { a with hold := .holding }
  | run {a : View} : Move a { a with hold := .run }
  | released {a : View} : Move a { a with pfw := false, hold := .run }
  | opened {a : View} (b : Bool) (h : a.controller = .idle) :
      Move a { a with controller := .active, active := true, timer := b }
  | timerEnds {a : View} : Move a { a with timer := false }
  | heldPending {a : View} (h : a.timer = true) : Move a { a with timer := false, pendingAuto := true }
  | committed {a : View} (h : a.controller = .active) : Move a { a.endActive with controller := .idle, closing := true }
  | closed {a : View} : Move a { a with closing := false }
  | aborted {a : View} (h : a.controller = .active) :
      Move a { a.endActive with controller := .rollingBack, rollback := true }
  | abortedAtOnce {a : View} (h : a.controller = .active) : Move a { a.endActive with controller := .idle }
  | rolledBack {a : View} (h : a.rollback = true) : Move a { a with controller := .idle, rollback := false }
  | faulted {a : View} (h : a.controller = .idle ∨ a.controller = .active ∨ a.controller = .rollingBack) :
      Move a { a.endActive with controller := .faulted, closing := false, rollback := false }
  | mountStarts {a : View} (h : a.controller = .unmounted ∧ a.rstHeld = false ∨ a.controller = .faulted) :
      Move a { a with controller := .mounting, mount := true, request := false }
  | mounted {a : View} (h : a.mount = true) : Move a { a with controller := .idle, mount := false }
  | notMounted {a : View} (h : a.mount = true) : Move a { a with controller := .unmounted, mount := false }
  | mountWaits {a : View} (h : a.controller = .faulted) : Move a { a with request := true }
  | mountDropped {a : View} : Move a { a with request := false }
  | resetPart {a : View} (n : Nat) (h : n ≤ a.inFlight) :
      Move a { a.cleared with inFlight := n, quarantined := a.quarantined ++ a.flyingTags, hold := .run }
  | rstHeld {a : View} :
      Move a { a.cleared with
               inFlight := 0, quarantined := [], hold := .run, rstHeld := true, regions := List.replicate 16 none }
  | rstReleased {a : View} (st : Straps) : Move a { a with rstHeld := false, settings := defaultSettings st }
  | rstMounts {a : View} (st : Straps) (h : a.rstHeld = true) :
      Move a { a with rstHeld := false, settings := defaultSettings st, controller := .mounting, mount := true,
                      request := false }

/-- A run of moves. -/
abbrev Goes : View → View → Prop := Relation.ReflTransGen Move

/-- A state's view goes to another's. -/
abbrev Leads (s t : State) : Prop := Goes (view s) (view t)

/-- One move. -/
theorem Goes.one {a b : View} (h : Move a b) : Goes a b := .single h

/-- Equal views. -/
theorem Leads.same {s t : State} (h : view t = view s) : Leads s t := by rw [Leads, h]

end Sys2Proof.Machine
end

