-- ==== Sys2Proof/Laws/Ops.lean ====
section
/-! SUPPORT. The shared operations of Machine/Flags.lean and Machine/Ops.lean as runs of moves. -/

namespace Sys2Proof.Machine

/-! ### Updates that the view does not see -/

theorem view_respond (t : UpTag) (st : Status) (d : List Beat) (s : State) : view (respond t st d s) = view s := rfl

theorem view_latch (k : AlertKind) (s : State) : view (latch k s) = view s := rfl

theorem view_setEntry (s : State) (p : Nat) (f : WriteEntry → WriteEntry) : view (s.setEntry p f) = view s := by
  simp [view, State.setEntry]

theorem view_setCapture (s : State) (p : Nat) (f : Capture → Capture) : view (s.setCapture p f) = view s := by
  simp [view, State.setCapture]

theorem view_setRollback (s : State) (f : Rollback → Rollback) : view (s.setRollback f) = view s := by
  simp [view, State.setRollback]

theorem view_setMount (s : State) (f : Mount → Mount) : view (s.setMount f) = view s := by
  simp [view, State.setMount]

theorem view_raiseClaim (c : Claim) (s : State) : view (raiseClaim c s) = view s := rfl

theorem view_endClaim (k : Claimant) (s : State) : view (endClaim k s) = view s := rfl

theorem view_endOpenWrite (e q : Word) (s : State) : view (endOpenWrite e q s) = view s := rfl

theorem view_mapEpoch (s : State) (n : Word) (f : EpochRecord → EpochRecord) : view (s.mapEpoch n f) = view s := by
  simp [view, State.mapEpoch]

theorem view_countFailed (n : Option Word) (s : State) : view (countFailed n s) = view s := by
  cases n with
  | none => rfl
  | some n => exact view_mapEpoch s n _

theorem view_setRing (s : State) (f : Ring → Ring) (h : ∀ r, (f r).key = r.key) : view (s.setRing f) = view s := by
  have : (s.ring.map f).map Ring.key = s.ring.map Ring.key := by cases s.ring <;> simp [h]
  simp [view, State.setRing, this]

theorem view_owe (s : State) (f : Nat → Nat) : view (s.owe f) = view s := view_setRing s _ (fun _ => rfl)

theorem view_acknowledge (q : Word) (s : State) : view (acknowledge q s) = view s := view_setRing s _ (fun _ => rfl)

theorem view_spaceLowTest (b a : Nat) (s : State) : view (spaceLowTest b a s) = view s := by
  unfold spaceLowTest
  split
  · exact view_latch _ _
  · rfl

theorem view_answerWaited (e : WriteEntry) (st : Status) (s : State) : view (answerWaited e st s) = view s := by
  unfold answerWaited
  split
  · exact view_respond _ _ _ _
  · rfl

/-! ### Records of the Alert Unit -/

theorem addIncident_leads (i : Incident) (s : State) : Leads s (addIncident i s) := by
  unfold addIncident
  rw [Leads, view_latch]
  split
  · rename_i h
    refine Goes.one ?_
    have := Move.incident (a := view s) h
    simpa [view] using this
  · exact Goes.one (Move.dropped (a := view s))

theorem addCompletion_leads (c : Completion) (s : State) : Leads s (addCompletion c s) := by
  have h : view (addCompletion c s) = { view s with completions := pushDiscarded (view s).completions } := by
    unfold addCompletion
    rw [view_latch]
    cases hc : s.completions with
    | nil => simp [view, hc, pushDiscarded]
    | cons o r =>
      by_cases hl : r.length + 1 < 4 <;>
        simp [view, hc, pushDiscarded, Config.completionCapacity, Config.countCeiling, hl]
  rw [Leads, h]
  exact Goes.one .completed

/-! ### Operation records -/

theorem key_tag (o : Op) : o.key.tag = o.phase.tag? := rfl

theorem key_waitingWrite (o : Op) : o.key.waitingWrite = o.waitingWrite := by
  unfold Op.waitingWrite OpKey.waitingWrite Op.key Op.isWaiting Requester.isEntry
  cases o.phase <;> cases o.requester <;> simp [OpPhase.tag?]

theorem view_load (s : State) : (view s).load = s.writeLoad := by
  unfold View.load State.writeLoad view
  simp only [List.filter_map, List.length_map]
  congr 3
  funext o
  exact key_waitingWrite o

theorem tagFree_view {s : State} {t : DownTag} (h : s.tagState t = .free) : (view s).tagFree t := by
  unfold State.tagState at h
  split at h
  · cases h
  · split at h
    · cases h
    · rename_i h1 h2
      refine ⟨by simpa [view] using h1, ?_⟩
      intro k hk e
      simp only [view, List.mem_map] at hk
      obtain ⟨o, ho, rfl⟩ := hk
      simp only [List.any_eq_true, not_exists, not_and] at h2
      exact h2 o ho (by simpa [key_tag] using e)

theorem freeTag_free {s : State} {t : DownTag} (h : s.freeTag = some t) : s.tagState t = .free := by
  have := List.find?_some h
  simpa using this

theorem endOps_leads {s t : State} (l : List Op) (h : l.Sublist s.ops)
    (e : view t = view { s with ops := l }) : Leads s t := by
  rw [Leads, e]
  exact Goes.one (Move.ended (a := view s) (l.map Op.key) (h.map _))

theorem dropOp_leads (s : State) (r : Nat) : Leads s (s.dropOp r) :=
  endOps_leads (s.ops.filter (fun o => o.ready != r)) List.filter_sublist rfl

theorem cancelWaiting_leads (s : State) (p : Op → Bool) : Leads s (s.cancelWaiting p) :=
  endOps_leads (s.ops.filter (fun o => !(o.isWaiting && p o))) List.filter_sublist rfl

theorem view_leaveSafe (s : State) : view (leaveSafe s) = { view s with hold := holdAfterIssue s.hold } := by
  unfold leaveSafe holdAfterIssue
  split <;> simp_all [view]

theorem view_sendOp (o : Op) (t : DownTag) (n : Nat) (s : State) :
    view (sendOp o t n s) =
      { (view s).setOp o.ready (fun k => { k with tag := some t, flying := true }) with
        hold := holdAfterIssue s.hold } := by
  unfold sendOp
  simp only [view_leaveSafe]
  have : ∀ l : List Op,
      (l.map (fun o' => if o'.ready = o.ready then
          { o' with retries := n, phase := .inFlight t s.settings.dsTimeoutUs.toNat,
                    timeout := some s.settings.dsTimeoutUs } else o')).map Op.key
        = (l.map Op.key).map (fun k => if k.ready = o.ready then { k with tag := some t, flying := true } else k) := by
    intro l
    simp only [List.map_map]
    refine List.map_congr_left ?_
    intro a _
    by_cases h : a.ready = o.ready <;> simp [Op.key, h, OpPhase.tag?, Op.flying]
  simp only [view, State.setOp, View.setOp, this]

theorem sendOp_leads {o : Op} {t : DownTag} {n : Nat} {s : State} (h : o ∈ s.ops)
    (w : o.phase = .waiting ∧ s.tagState t = .free ∨ o.phase.tag? = some t) : Leads s (sendOp o t n s) := by
  rw [Leads, view_sendOp]
  refine Goes.one (Move.issued (a := view s) o.key t (List.mem_map_of_mem h) ?_)
  rcases w with ⟨w, f⟩ | w
  · exact .inl ⟨by simp [Op.key, w, OpPhase.tag?], tagFree_view f⟩
  · exact .inr w

theorem mapTracker_length (s : State) (p : Nat) (f : ReadEntry → ReadEntry) :
    view { s with readTracker := s.readTracker.map (fun e => if e.place = p then f e else e) } = view s := by
  simp [view]

theorem grant_leads {o : Op} {t : DownTag} {s : State} (h : o ∈ s.ops) (w : o.phase = .waiting)
    (f : s.tagState t = .free) : Leads s (grant o t s) := by
  have hs : Leads s (sendOp o t 0 s) := sendOp_leads h (.inl ⟨w, f⟩)
  unfold grant requesterIssued
  cases hr : o.requester with
  | entry p =>
    simp only []
    cases he : (sendOp o t 0 s).entryAt p with
    | none => exact hs
    | some e =>
      simp only []
      have hv : view { (sendOp o t 0 s).setEntry p (fun e => { e with stage := .issued }) with
          inFlight := (sendOp o t 0 s).inFlight ++ [{ granule := e.granule, tag := t, entry := some p }] } =
          { (view s).setOp o.ready (fun k => { k with tag := some t, flying := true }) with
            hold := holdAfterIssue s.hold, inFlight := s.inFlight.length + 1 } := by
        have h1 : (sendOp o t 0 s).inFlight = s.inFlight := by unfold sendOp; simp
        have h2 := view_sendOp o t 0 s
        rw [← view_setEntry (sendOp o t 0 s) p (fun e => { e with stage := .issued })] at h2
        have h3 : ∀ (a : State) (l : List InFlight),
            view { a with inFlight := l } = { view a with inFlight := l.length } := fun _ _ => rfl
        rw [h3, h2, h1]
        simp
      rw [Leads, hv]
      exact Goes.one (Move.issuedWrite (a := view s) o.key t (List.mem_map_of_mem h)
        ⟨by simp [Op.key, w, OpPhase.tag?], tagFree_view f⟩ (by simp [Op.key, hr, Requester.isEntry]))
  | read p =>
    simp only []
    rw [Leads, mapTracker_length]
    exact hs
  | closer =>
    have : view { sendOp o t 0 s with
        closing := (sendOp o t 0 s).closing.map (fun c => { c with stage := .marking }) } = view (sendOp o t 0 s) := by
      simp [view]
    simp only []
    rw [Leads, this]
    exact hs
  | _ => exact hs

theorem tagState_addWaiting {s : State} {o : Op} (h : o.phase = .waiting) (n : Nat) (t : DownTag) :
    ({ s with ops := s.ops ++ [o], nextReady := n } : State).tagState t = s.tagState t := by
  have : (none : Option DownTag) ≠ some t := nofun
  simp [State.tagState, h, OpPhase.tag?]

theorem request_leads {kind : OpKind} {who : Requester} {a : Word} {b : Nat} {m : List Byte} {d : List Beat} {s : State}
    (h : who.isEntry = true → s.writeLoad < 8) : Leads s (request kind who a b m d s) := by
  have h1 : ∀ o : Op, o.phase = .waiting → o.requester = who → o.ready = s.nextReady →
      Leads s { s with ops := s.ops ++ [o], nextReady := s.nextReady + 1 } := by
    intro o hw hr hn
    have hk : o.key = { ready := s.nextReady, tag := none, flying := false, entry := who.isEntry } := by
      simp [Op.key, hw, hr, hn, OpPhase.tag?, Op.flying]
    refine Goes.one ?_
    have := Move.asked (a := view s) who.isEntry (by rw [view_load]; exact h)
    simpa [view, hk] using this
  unfold request
  simp only []
  split
  · exact h1 _ rfl rfl rfl
  · split
    · rename_i t ht
      refine (h1 _ rfl rfl rfl).trans (grant_leads (by simp) rfl ?_)
      rw [tagState_addWaiting rfl]
      exact freeTag_free ht
    · exact h1 _ rfl rfl rfl

/-! ### The ring -/

theorem allocate_leads {s s' : State} {slot : SlotRef} (h : allocate s = some (slot, s')) : Leads s s' := by
  unfold allocate at h
  split at h
  · cases h
  · rename_i r hr
    simp only [Option.some.injEq, Prod.mk.injEq] at h
    obtain ⟨-, rfl⟩ := h
    rw [Leads, view_spaceLowTest]
    refine Goes.one ?_
    have := Move.allocated (a := view s) r.tailSeq r.nextSeq r.occupancy (by simp [view, hr, Ring.key])
    simpa [view, Ring.key, Ring.allocated] using this

/-- An allocation leaves everything but the ring and the latched alerts as it was. -/
theorem allocate_rest {s s' : State} {slot : SlotRef} (h : allocate s = some (slot, s')) :
    ∃ r k, s' = { s with ring := some r, latched := k } := by
  unfold allocate at h
  split at h
  · cases h
  · simp only [Option.some.injEq, Prod.mk.injEq] at h
    obtain ⟨-, rfl⟩ := h
    unfold spaceLowTest
    split
    · exact ⟨_, _, rfl⟩
    · exact ⟨_, _, rfl⟩

theorem setRing_anchored_leads (w : AnchorWrite) (s : State) : Leads s (s.setRing (Ring.anchored w)) := by
  cases hr : s.ring with
  | none => exact Leads.same (by simp [view, State.setRing, hr])
  | some r =>
    refine Goes.one ?_
    have := Move.anchored (a := view s) r.tailSeq r.nextSeq w.tailSeq r.occupancy (by simp [view, hr, Ring.key])
    simpa [view, State.setRing, hr, Ring.key, Ring.anchored] using this

/-! ### How an entry leaves the queue -/

theorem filterQueue_leads (s : State) (p : WriteEntry → Bool) :
    Leads s { s with writeQueue := s.writeQueue.filter p } :=
  Goes.one (Move.dequeue (a := view s) _ (List.length_filter_le _ _))

theorem dequeue_leads (p : Nat) (s : State) : Leads s (dequeue p s) :=
  (cancelWaiting_leads s _).trans (filterQueue_leads _ _)

theorem failEntry_leads (e : WriteEntry) (st : Status) (k : IncidentKind) (s : State) :
    Leads s (failEntry e st k s) := by
  unfold failEntry
  rw [Leads, view_countFailed]
  refine (dequeue_leads e.place s).trans ?_
  cases e.ack with
  | posted => exact addIncident_leads _ _
  | waited => exact Leads.same (view_respond _ _ _ _)

theorem withdraw_leads (e : WriteEntry) (s : State) : Leads s (withdraw e s) := by
  unfold withdraw
  rw [Leads, view_answerWaited]
  exact dequeue_leads _ _

theorem foldl_leads {α : Type} (f : State → α → State) (h : ∀ s x, Leads s (f s x)) (l : List α) (s : State) :
    Leads s (l.foldl f s) := by
  induction l generalizing s with
  | nil => exact .refl
  | cons x l ih => exact (h s x).trans (ih _)

theorem withdrawAll_leads (es : List WriteEntry) (s : State) : Leads s (withdrawAll es s) :=
  foldl_leads _ (fun s e => withdraw_leads e s) es s

end Sys2Proof.Machine
end

