-- ==== Sys2Proof/Laws/Engines.lean ====
section
/-! SUPPORT. The operations of the blocks (Machine/Capture.lean to Machine/Mount.lean) as runs of moves. -/

namespace Sys2Proof.Machine

/-! ### Acceptance -/

theorem enqueue_leads (e : WriteEntry) {s : State} (h : s.writeQueue.length < 32) : Leads s (enqueue e s) := by
  refine Goes.one ?_
  have := Move.enqueue (a := view s) h
  simpa [view, enqueue] using this

theorem view_enqueueCovered (e : WriteEntry) (n : Word) (f : FilterRecord) (s : State) :
    view (enqueueCovered e n f s) =
      view (enqueue { e with relation := .covered, epoch := some n, slotSeq := f.covering } s) := by
  unfold enqueueCovered
  split <;> simp [view]

theorem filterAt_none {s : State} {g : Word} (h : s.filterAt g = none) : g ∉ (view s).filter := by
  unfold State.filterAt at h
  rw [List.find?_eq_none] at h
  simp only [view, List.mem_map, not_exists, not_and]
  intro r hr hg
  exact h r hr (by simpa using hg)

theorem enqueueCapture_leads (e : WriteEntry) (n : Word) {s : State} (h : s.writeQueue.length < 32)
    (a : s.active.isSome = true) (f : s.filterAt e.granule = none) : Leads s (enqueueCapture e n s) := by
  unfold enqueueCapture
  simp only []
  refine (enqueue_leads { e with relation := .capture, epoch := some n, stage := .queued } h).trans ?_
  by_cases hf : Config.filterCapacity ≤ s.filter.length
  · refine Leads.same ?_
    simp [view, enqueue, hf]
  · refine Goes.one ?_
    have := Move.covered (a := view (enqueue { e with relation := .capture, epoch := some n, stage := .queued } s))
      e.granule a (filterAt_none f) (by simpa [view, enqueue, Config.filterCapacity] using hf)
    simpa [view, enqueue, hf] using this

theorem view_answerPosted (ack : AckMode) (t : UpTag) (s : State) : view (answerPosted ack t s) = view s := by
  cases ack
  · exact view_respond _ _ _ _
  · rfl

theorem acceptWrite_leads (r : WriteRequest) (cls : EntryClass) (ack : AckMode) {s : State}
    (h : s.writeQueue.length < 32) : Leads s (acceptWrite r cls ack s) := by
  unfold acceptWrite
  simp only []
  rw [Leads, view_answerPosted]
  split
  · rename_i a ha
    split
    · rw [view_enqueueCovered]
      exact enqueue_leads _ h
    · rename_i hf
      exact enqueueCapture_leads _ _ h (by simp [ha]) hf
  · exact enqueue_leads _ h

theorem acceptRead_leads (r : ReadRequest) {s : State} (h : s.readTracker.length < 8) : Leads s (acceptRead r s) := by
  refine Goes.one ?_
  have := Move.readIn (a := view s) h
  simpa [view, acceptRead] using this

/-! ### Captures -/

theorem dataWriteIssue_leads {s t : State} (h : dataWriteIssue? s = some t) : Leads s t := by
  unfold dataWriteIssue? at h
  split at h
  · cases h
  · split at h
    · rename_i e _ hc
      cases h
      refine request_leads (fun _ => ?_)
      have hw : s.ops.filter (fun o => o.waitingWrite) = [] := by
        rw [List.filter_eq_nil_iff]
        exact List.any_eq_false.mp hc.2.2
      have he := hc.1
      simp only [State.writeEligible, Bool.and_eq_true, decide_eq_true_eq, Config.inFlightCapacity] at he
      have hl : s.inFlight.length < 8 := of_decide_eq_true he.1.1.1.1.2
      simp only [State.writeLoad, hw, List.length_nil]
      omega
    · cases h

theorem dataReadIssue_leads {s t : State} (h : dataReadIssue? s = some t) : Leads s t := by
  unfold dataReadIssue? at h
  split at h
  · cases h
  · cases h
    exact request_leads nofun

theorem handOut_view (c : CaptureRecord) (q : Word) (s : State) : view (handOut c q s) = view s := by
  unfold handOut
  have : ∀ f : FilterRecord,
      (if f.link = some c.entry then { f with covering := some q, link := none } else f).granule = f.granule := by
    intro f; split <;> rfl
  simp [view, List.map_map, Function.comp_def, this]

/-- The UNDO allocation, after the move that makes room for the capture. -/
theorem allocateUndo_leads {c : CaptureRecord} {s t : State} (h : allocateUndo c s = some t) :
    ∃ u, allocate s = some u ∧ view t = { view u.2 with captures := s.captures.length + 1 } := by
  unfold allocateUndo at h
  split at h
  · cases h
  · rename_i slot s1 ha
    refine ⟨(slot, s1), ha, ?_⟩
    obtain ⟨r, k, rfl⟩ := allocate_rest ha
    cases h
    have h3 : ∀ (a : State) (l : List CaptureRecord) (m : List Capture),
        view { a with captureOrder := l, captures := m } = { view a with captures := m.length } := fun _ _ _ => rfl
    rw [h3, handOut_view, view_setEntry, view_mapEpoch]
    simp [handOut]

theorem allocate_withCaptures {s : State} {u : SlotRef × State} (h : allocate s = some u) (n : Nat) :
    Goes { view s with captures := n } { view u.2 with captures := n } := by
  obtain ⟨slot, s'⟩ := u
  have hl := allocate_leads h
  unfold allocate at h
  split at h
  · cases h
  · rename_i r hr
    simp only [Option.some.injEq, Prod.mk.injEq] at h
    obtain ⟨-, rfl⟩ := h
    simp only [view_spaceLowTest]
    refine Goes.one ?_
    have := Move.allocated (a := { view s with captures := n }) r.tailSeq r.nextSeq r.occupancy
      (by simp [view, hr, Ring.key])
    simpa [view, Ring.key, Ring.allocated] using this

theorem filterCaptures_leads (s : State) (p : Capture → Bool) : Leads s { s with captures := s.captures.filter p } :=
  Goes.one (Move.captureOut (a := view s) _ (List.length_filter_le _ _))

theorem endCapture_leads (p : Nat) (s : State) : Leads s (endCapture p s) := filterCaptures_leads s _

theorem filterFilter_leads (s : State) (p : FilterRecord → Bool) : Leads s { s with filter := s.filter.filter p } :=
  Goes.one (Move.uncovered (a := view s) _ (List.filter_sublist.map _))

theorem filterWaiter_leads (s : State) (p : SpaceWaiter → Bool) :
    Leads s { s with spaceWaiter := s.spaceWaiter.filter p } := by
  cases hw : s.spaceWaiter with
  | none => exact Leads.same (by simp [view, hw])
  | some w =>
    by_cases hp : p w = true
    · exact Leads.same (by simp [view, hw, Option.filter, hp])
    · refine Goes.one ?_
      have := Move.unwait (a := view s)
      simpa [view, hw, Option.filter, hp] using this

theorem failForSpace_leads (c : CaptureRecord) (s : State) : Leads s (failForSpace c s) := by
  unfold failForSpace
  simp only []
  refine Relation.ReflTransGen.trans ?_ (foldl_leads _ ?_ _ _)
  · exact (filterFilter_leads s _).trans (filterWaiter_leads _ (fun w => w.entry != c.entry))
  · intro s p
    split
    · exact failEntry_leads _ _ _ _
    · exact .refl

theorem noSpace_leads (c : CaptureRecord) (e : WriteEntry) {s : State} (h : s.captures.length < 4) :
    Leads s (noSpace c e s) := by
  unfold noSpace
  split
  · exact failForSpace_leads c s
  · refine Goes.one ?_
    have := Move.wait (a := view s) h
    have h2 := view_setEntry s c.entry (fun e => { e with stage := .spaceWait })
    have h3 : ∀ (a : State) (w : SpaceWaiter), view { a with spaceWaiter := some w } = { view a with waiter := true } :=
      fun _ _ => rfl
    rw [h3, h2]
    exact this

theorem captureStart_leads {s t : State} (h : captureStart? s = some t) : Leads s t := by
  unfold captureStart? at h
  split at h
  · cases h
  · split at h
    · split at h
      · rename_i hm
        have hm2 : s.captures.length < 4 ∧ s.spaceWaiter = none := by
          simp only [State.mayStart, Bool.and_eq_true, decide_eq_true_eq, Config.captureCapacity,
            Option.isNone_iff_eq_none] at hm
          exact ⟨of_decide_eq_true hm.1.1.1.2, hm.1.1.1.1.2⟩
        split at h
        · obtain ⟨u, hu, hv⟩ := allocateUndo_leads h
          rw [Leads, hv]
          refine .head (Move.captureIn (a := view s) hm2.1 (by simp [view, hm2.2])) ?_
          exact allocate_withCaptures hu _
        · cases h
          exact noSpace_leads _ _ hm2.1
      · cases h
    · cases h

theorem spaceGranted_leads {s t : State} (h : spaceGranted? s = some t) : Leads s t := by
  unfold spaceGranted? at h
  split at h
  · cases h
  · rename_i c hc
    split at h
    · obtain ⟨u, hu, hv⟩ := allocateUndo_leads h
      have hw : s.spaceWaiter.isSome = true := by
        unfold State.waitingRecord at hc
        cases hs : s.spaceWaiter with
        | none => simp [hs] at hc
        | some w => rfl
      rw [Leads, hv]
      refine .head (Move.granted (a := view s) (by simpa [view] using hw)) ?_
      exact allocate_withCaptures hu _
    · cases h

theorem spaceWaitExpires_leads {s t : State} (h : spaceWaitExpires? s = some t) : Leads s t := by
  unfold spaceWaitExpires? at h
  split at h
  · split at h
    · cases h
      exact failForSpace_leads _ _
    · cases h
  · cases h

theorem captureIssue_leads {s t : State} (h : captureIssue? s = some t) : Leads s t := by
  unfold captureIssue? at h
  split at h
  · cases h
  · split at h
    · cases h
      unfold requestCapture
      split
      · exact request_leads nofun
      · exact request_leads nofun
    · cases h

/-! ### The Epoch Controller -/

theorem view_activeSome (s : State) (r : EpochRecord) (h : s.active.isSome = true) :
    view { s with active := some r } = view s := by
  simp [view, h]

theorem allocateOpen_leads (s : State) : Leads s (allocateOpen s) := by
  unfold allocateOpen
  split
  · rename_i a slot s1 ha hs
    have h1 := allocate_leads hs
    obtain ⟨r, k, rfl⟩ := allocate_rest hs
    refine h1.trans (Leads.same ?_)
    simp [view, ha]
  · exact .refl

theorem view_latchAuto (t : Trigger) (s : State) : view (latchAuto t s) = view s := by
  cases t
  · rfl
  · exact view_latch _ _

theorem openEpoch_leads (o : Trigger) {s : State} (h : s.controller = .idle) : Leads s (openEpoch o s) := by
  unfold openEpoch
  simp only []
  rw [Leads, view_latchAuto]
  have h0 : ∀ (r : EpochRecord) (n : Option Word) (t : Option Nat),
      Leads s { s with active := some r, nextEpoch := n, autoTimer := t, controller := .active } := by
    intro r n t
    refine Goes.one ?_
    have := Move.opened (a := view s) t.isSome h
    simpa [view] using this
  split
  · rw [view_owe]
    exact h0 _ _ _
  · rw [view_owe]
    exact (h0 _ _ _).trans (allocateOpen_leads _)

theorem openWriteIssue_leads {s t : State} (h : openWriteIssue? s = some t) : Leads s t := by
  unfold openWriteIssue? at h
  split at h
  · cases h
  · split at h
    · cases h
    · cases h
      exact request_leads nofun

theorem failWaiterOf_leads (n : Word) (s : State) : Leads s (failWaiterOf n s) := by
  unfold failWaiterOf
  split
  · split
    · exact failForSpace_leads _ _
    · exact .refl
  · exact .refl

end Sys2Proof.Machine
end

