-- ==== Sys2Proof/Laws/Closing.lean ====
section
/-! SUPPORT. Commits, faults, aborts and rollbacks (Machine/Epoch.lean, Machine/Rollback.lean) as runs of moves. -/

namespace Sys2Proof.Machine

/-! ### Commit and the closer -/

theorem acceptCommit_leads (t : Trigger) {s : State} (h : s.controller = .active) : Leads s (acceptCommit t s) := by
  unfold acceptCommit
  split
  · exact .refl
  · rw [Leads, view_latchAuto]
    refine Relation.ReflTransGen.trans ?_ (failWaiterOf_leads _ _)
    refine Goes.one ?_
    have := Move.committed (a := view s) h
    simpa [view, View.endActive] using this

theorem closerCapturingDone_leads {s t : State} (h : closerCapturingDone? s = some t) : Leads s t := by
  unfold closerCapturingDone? at h
  split at h
  · cases h
  · rename_i c hc
    split at h
    · split at h
      · cases h
      · rename_i slot s1 ha
        have h1 := allocate_leads ha
        obtain ⟨r, k, rfl⟩ := allocate_rest ha
        have h2 : ∀ (x : State) (c' : ClosingRecord), x.closing.isSome = true →
            view { x with closing := some c' } = view x := by
          intro x c' hx; simp [view, hx]
        have h3 : ∀ (x : State) (f : Nat → Nat), (x.owe f).closing = x.closing := fun _ _ => rfl
        have h4 : Leads s { State.owe { s with ring := some r, latched := k } (· - 1) with
            closing := some { c with stage := .draining, closeSlot := some slot } } := by
          rw [Leads, h2 _ _ (by rw [h3]; simp [hc]), view_owe]
          exact h1
        simp only [] at h
        split at h
        · split at h
          · cases h
            rw [Leads, view_owe]
            exact h4.trans (allocateOpen_leads _)
          · cases h
            exact h4
        · cases h
          exact h4
    · cases h

theorem closeWriteIssue_leads {s t : State} (h : closeWriteIssue? s = some t) : Leads s t := by
  unfold closeWriteIssue? at h
  split at h
  · cases h
  · split at h
    · cases h
    · split at h
      · cases h
        exact request_leads nofun
      · cases h

theorem anchorClaimIssue_leads {s t : State} (h : anchorClaimIssue? s = some t) : Leads s t := by
  unfold anchorClaimIssue? at h
  split at h
  · cases h
  · split at h
    · cases h
    · cases h
      exact request_leads nofun

theorem autoCommitNow_active {s : State} (h : s.autoCommitNow = true) : s.controller = .active := by
  simp only [State.autoCommitNow, Bool.and_eq_true, decide_eq_true_eq] at h
  exact h.1.1.1

theorem autoCommitExpires_leads {s t : State} (h : autoCommitExpires? s = some t) : Leads s t := by
  unfold autoCommitExpires? at h
  split at h
  · cases h
  · rename_i n hn
    simp only [] at h
    split at h
    · rename_i ha
      cases h
      refine Relation.ReflTransGen.trans (b := view { s with autoTimer := none }) ?_
        (acceptCommit_leads _ (autoCommitNow_active ha))
      exact Goes.one (Move.timerEnds (a := view s))
    · cases h
      refine Goes.one ?_
      have := Move.heldPending (a := view s) (by simp [view, hn])
      simpa [view] using this

theorem pendingAutoCommit_leads {s t : State} (h : pendingAutoCommit? s = some t) : Leads s t := by
  unfold pendingAutoCommit? at h
  split at h
  · rename_i hc
    cases h
    exact acceptCommit_leads _ (autoCommitNow_active hc.2)
  · cases h

/-! ### Entry to FAULTED -/

theorem reportCloser_leads (w : Option ClosingRecord) (s : State) : Leads s (reportCloser w s) := by
  unfold reportCloser
  split
  · exact .refl
  · split
    · exact .refl
    · exact addCompletion_leads _ _

theorem reportRollback_leads (w : Option Rollback) (s : State) : Leads s (reportRollback w s) := by
  unfold reportRollback
  split
  · exact .refl
  · exact addCompletion_leads _ _

theorem orphaned_key (s : State) (o : Op) : (s.orphaned o).key = o.key := by
  unfold State.orphaned
  split
  · rename_i w h
    unfold State.orphanOf at h
    cases hr : o.requester <;> simp [hr] at h <;> simp [Op.key, Op.flying, Requester.isEntry, hr]
  · rfl

theorem faultOps_leads (was s : State) : Leads s (faultOps was s) := by
  refine Relation.ReflTransGen.trans (b := view { s with ops := s.ops.filter (fun o => !(o.isWaiting && o.endsInFault)) }) ?_ ?_
  · exact endOps_leads _ List.filter_sublist rfl
  · refine Leads.same ?_
    simp [view, faultOps, List.map_map, Function.comp_def, orphaned_key]

theorem unwait_leads (s : State) : Leads s { s with spaceWaiter := none } :=
  Goes.one (Move.unwait (a := view s))

theorem faultRing_leads (s : State) : Leads s (faultRing s) := by
  refine Relation.ReflTransGen.trans (b := view (s.owe (fun _ => 0))) (Leads.same (view_owe _ _)) ?_
  exact unwait_leads _

theorem faultCaptures_leads (s : State) : Leads s (faultCaptures s) := by
  refine Relation.ReflTransGen.trans (filterCaptures_leads s (fun c => s.captureIssued c.entry)) (Leads.same ?_)
  simp [view, faultCaptures]

theorem faultController_leads {s : State} (h : s.controller = .idle ∨ s.controller = .active ∨
    s.controller = .rollingBack) : Leads s (faultController s) := by
  refine Goes.one ?_
  have := Move.faulted (a := view s) h
  simpa [view, View.endActive, faultController] using this

theorem enterFaulted_leads (s : State) : Leads s (enterFaulted s) := by
  unfold enterFaulted
  split
  · rename_i h
    exact (faultController_leads h).trans ((faultCaptures_leads _).trans ((faultRing_leads _).trans
      ((faultOps_leads _ _).trans ((withdrawAll_leads _ _).trans ((reportCloser_leads _ _).trans
        (reportRollback_leads _ _))))))
  · exact .refl

/-! ### Abort and rollback -/

theorem abortCaptures_leads (n : Word) (s : State) : Leads s (abortCaptures n s) := by
  refine Relation.ReflTransGen.trans (filterWaiter_leads s (fun w => w.epoch != n)) (Leads.same ?_)
  simp [view, abortCaptures]

theorem acceptAbort_leads {s : State} (h : s.controller = .active) : Leads s (acceptAbort s) := by
  unfold acceptAbort
  split
  · exact .refl
  · split
    · unfold abortAllocated
      refine Relation.ReflTransGen.trans ?_ ((abortCaptures_leads _ _).trans (withdrawAll_leads _ _))
      refine Goes.one ?_
      have := Move.aborted (a := view s) h
      simpa [view, View.endActive, endActive] using this
    · unfold abortDeferred
      simp only []
      refine Relation.ReflTransGen.trans (b := view (endActive .idle s)) ?_ ?_
      · refine Goes.one ?_
        have := Move.abortedAtOnce (a := view s) h
        simpa [view, View.endActive, endActive] using this
      · refine Relation.ReflTransGen.trans ?_ (addCompletion_leads _ _)
        rw [view_owe]
        refine Relation.ReflTransGen.trans ?_ (withdrawAll_leads _ _)
        exact abortCaptures_leads _ _

theorem rollbackAbandon_leads (s : State) : Leads s (rollbackAbandon s) := by
  unfold rollbackAbandon
  split
  · exact .refl
  · rename_i slot s1 ha
    rw [Leads, view_setRollback, view_owe]
    exact allocate_leads ha

theorem rollbackSettled_leads {s t : State} (h : rollbackSettled? s = some t) : Leads s t := by
  unfold rollbackSettled? at h
  split at h
  · split at h
    · split at h
      · cases h
        exact rollbackAbandon_leads s
      · cases h
        exact Leads.same (view_setRollback _ _)
    · cases h
  · cases h

theorem rollbackIssue_leads {s t : State} (h : rollbackIssue? s = some t) : Leads s t := by
  unfold rollbackIssue? at h
  split at h
  · cases h
  · split at h
    · split at h
      · cases h
        exact request_leads nofun
      · cases h
        exact request_leads nofun
      · cases h
    · cases h

theorem rollbackRestoreIssue_leads {s t : State} (h : rollbackRestoreIssue? s = some t) : Leads s t := by
  unfold rollbackRestoreIssue? at h
  split at h
  · cases h
  · split at h
    · split at h
      · simp only [] at h
        split at h
        · cases h
          exact (Leads.same (view_setRollback s _)).trans (request_leads nofun)
        · cases h
          exact Leads.same (view_setRollback s _)
      · cases h
    · split at h
      · cases h
        exact request_leads nofun
      · cases h
    · cases h

theorem rollbackReadOk_leads (ws : List Word) (s : State) : Leads s (rollbackReadOk ws s) := by
  unfold rollbackReadOk
  split
  · exact .refl
  · split
    · exact .refl
    · split
      · exact Leads.same (view_setRollback s _)
      · exact (Leads.same (view_setRollback s _)).trans ((addIncident_leads _ _).trans (enterFaulted_leads _))

theorem rollbackRestoreOk_leads (s : State) : Leads s (rollbackRestoreOk s) := by
  unfold rollbackRestoreOk
  split
  · exact .refl
  · split
    · exact .refl
    · simp only []
      split
      · exact (Leads.same (view_setRollback s _)).trans (rollbackAbandon_leads _)
      · rw [Leads, view_setRollback, view_setRollback]

theorem rollbackAbandonOk_leads (s : State) : Leads s (rollbackAbandonOk s) := by
  unfold rollbackAbandonOk
  split
  · simp only []
    rw [Leads, view_raiseClaim, view_setRollback]
    split
    · rw [view_acknowledge]
    · exact .refl
  · exact .refl

theorem rollbackOpFailed_leads (o : Op) (s : State) : Leads s (rollbackOpFailed o s) := by
  unfold rollbackOpFailed
  split
  · exact .refl
  · exact (addIncident_leads _ _).trans (enterFaulted_leads _)

theorem rollbackOpOk_leads (o : Op) (d : List Beat) (s : State) : Leads s (rollbackOpOk o d s) := by
  unfold rollbackOpOk
  split
  · exact rollbackReadOk_leads _ _
  · exact rollbackRestoreOk_leads _
  · exact rollbackAbandonOk_leads _

theorem rollbackComplete_leads (s : State) : Leads s (rollbackComplete s) := by
  unfold rollbackComplete
  split
  · exact .refl
  · rename_i r hr
    refine Relation.ReflTransGen.trans ?_ (addCompletion_leads _ _)
    refine Goes.one ?_
    have := Move.rolledBack (a := view s) (by simp [view, hr])
    simpa [view] using this

end Sys2Proof.Machine
end

