-- ==== Sys2Proof/Laws/Mounting.lean ====
section
/-! SUPPORT. Mounts (Machine/Mount.lean) as runs of moves. -/

namespace Sys2Proof.Machine

/-! ### Start and ends -/

theorem dropHeld_leads (s : State) : Leads s { s with ops := s.ops.filter (fun o => !o.heldJournalWrite) } :=
  endOps_leads _ List.filter_sublist rfl

theorem ringGone_leads (s : State) : Leads s { s with ring := none } :=
  Goes.one (Move.ringGone (a := view s))

theorem startMount_leads (k : MountKind) (t : Trigger) (w : Word) {s : State}
    (h : s.controller = .unmounted ∧ s.rstHeld = false ∨ s.controller = .faulted) : Leads s (startMount k t w s) := by
  refine (dropHeld_leads s).trans ((ringGone_leads _).trans ?_)
  refine Goes.one ?_
  have := Move.mountStarts (a := view { s with ops := s.ops.filter (fun o => !o.heldJournalWrite), ring := none }) h
  simpa [view, startMount] using this

theorem mountFromFaulted_leads {s t : State} (h : mountFromFaulted? s = some t) : Leads s t := by
  unfold mountFromFaulted? at h
  split at h
  · cases h
  · split at h
    · rename_i hc
      cases h
      exact startMount_leads _ _ _ (.inr hc.1)
    · cases h

theorem endMount_leads (o : LongOutcome) (s : State) : Leads s (endMount o s) := by
  unfold endMount
  split
  · exact .refl
  · rename_i m hm
    refine Relation.ReflTransGen.trans ?_ (addCompletion_leads _ _)
    refine (ringGone_leads s).trans (Goes.one ?_)
    have := Move.notMounted (a := view { s with ring := none }) (by simp [view, hm])
    simpa [view] using this

theorem view_mountSpaceTest (s : State) : view (mountSpaceTest s) = view s := by
  unfold mountSpaceTest
  split
  · split
    · exact view_latch _ _
    · rfl
  · rfl

theorem completeMount_leads (o : LongOutcome) (n l : Word) (s : State) : Leads s (completeMount o n l s) := by
  unfold completeMount
  split
  · exact .refl
  · rename_i m hm
    refine Relation.ReflTransGen.trans ?_ (addCompletion_leads _ _)
    rw [view_mountSpaceTest]
    refine Goes.one ?_
    have := Move.mounted (a := view s) (by simp [view, hm])
    simpa [view] using this

/-! ### The anchors -/

theorem setMount_leads (f : Mount → Mount) (s : State) : Leads s (s.setMount f) := Leads.same (view_setMount s f)

theorem ringSet_leads (r : Ring) (h : r.key = (r.tailSeq, r.tailSeq, 0)) (s : State) :
    Leads s { s with ring := some r } := by
  refine Goes.one ?_
  have := Move.ringSet (a := view s) r.tailSeq
  rw [← h] at this
  simpa [view] using this

theorem setUp_leads (r : Ring) (h : r.key = (r.tailSeq, r.tailSeq, 0)) (s : State) :
    Leads s { s with ring := some r, spaceWaiter := none } :=
  (unwait_leads s).trans (ringSet_leads r h { s with spaceWaiter := none })

theorem structureError_leads (e : Option Word) (q : Word) (s : State) : Leads s (structureError e q s) :=
  (addIncident_leads _ _).trans (endMount_leads _ _)

theorem beginScan_leads (c : Chosen) (s : State) : Leads s (beginScan c s) := by
  unfold beginScan
  split
  · exact setMount_leads _ _
  · exact structureError_leads _ _ _

theorem recoverChoose_leads (m : Mount) (s : State) : Leads s (recoverChoose m s) := by
  unfold recoverChoose
  split
  · simp only []
    split
    · exact endMount_leads _ _
    · split
      · exact endMount_leads _ _
      · split
        · exact beginScan_leads _ _
        · split
          · exact beginScan_leads _ _
          · split
            · exact beginScan_leads _ _
            · exact beginScan_leads _ _
  · exact endMount_leads _ _

theorem formatSetUp_leads (m : Mount) (s : State) : Leads s (formatSetUp m s) := by
  unfold formatSetUp
  simp only []
  rw [Leads, view_raiseClaim, view_setMount]
  exact setUp_leads _ rfl s

theorem anchorReadDone_leads (c : Copy) (f : Finding) (s : State) : Leads s (anchorReadDone c f s) := by
  unfold anchorReadDone
  simp only []
  generalize hs : s.setMount _ = s1
  have hv : view s1 = view s := by rw [← hs, view_setMount]
  rw [Leads, ← hv]
  change Leads s1 _
  split
  · exact .refl
  · split
    · split
      · exact formatSetUp_leads _ _
      · exact recoverChoose_leads _ _
    · exact .refl

/-! ### Scan and replay -/

theorem recoverAnchor_leads (s : State) : Leads s (recoverAnchor s) := by
  unfold recoverAnchor
  split
  · rw [Leads, view_raiseClaim, view_setMount]
  · exact .refl

theorem recoverAbandon_leads (s : State) : Leads s (recoverAbandon s) := by
  unfold recoverAbandon
  split
  · exact .refl
  · rename_i slot s1 ha
    rw [Leads, view_setMount, view_owe]
    exact allocate_leads ha

theorem scanStops_leads (p : SlotRef) (s : State) : Leads s (scanStops p s) := by
  unfold scanStops
  split
  · exact .refl
  · split
    · exact .refl
    · rename_i m hm c hc
      simp only []
      split
      · refine Relation.ReflTransGen.trans ?_ (recoverAnchor_leads _)
        rw [view_setMount]
        exact setUp_leads _ rfl s
      · split
        · refine Relation.ReflTransGen.trans ?_ (recoverAbandon_leads _)
          rw [view_owe, view_setMount]
          exact setUp_leads _ rfl s
        · rw [Leads, view_setMount, view_owe, view_setMount]
          exact setUp_leads _ rfl s

theorem scanAccepts_leads (p : SlotRef) (ws : List Word) (sh : Shape) (s : State) : Leads s (scanAccepts p ws sh s) := by
  unfold scanAccepts
  simp only []
  generalize hs : s.setMount _ = s1
  have hv : view s1 = view s := by rw [← hs, view_setMount]
  rw [Leads, ← hv]
  change Leads s1 _
  split
  · exact .refl
  · split
    · exact scanStops_leads _ _
    · exact setMount_leads _ _

theorem scanReadOk_leads (ws : List Word) (s : State) : Leads s (scanReadOk ws s) := by
  unfold scanReadOk
  split
  · exact .refl
  · split
    · split
      · simp only []
        split
        · exact scanAccepts_leads _ _ _ _
        · exact (setMount_leads _ s).trans (structureError_leads _ _ _)
      · exact scanStops_leads _ _
    · exact .refl

theorem mountReplayReadOk_leads (ws : List Word) (s : State) : Leads s (mountReplayReadOk ws s) := by
  unfold mountReplayReadOk
  split
  · exact .refl
  · split
    · split
      · exact setMount_leads _ _
      · exact (addIncident_leads _ _).trans (endMount_leads _ _)
    · exact .refl

theorem mountRestoreOk_leads (s : State) : Leads s (mountRestoreOk s) := by
  unfold mountRestoreOk
  split
  · exact .refl
  · split
    · exact .refl
    · simp only []
      split
      · exact (setMount_leads _ s).trans (recoverAbandon_leads _)
      · exact (setMount_leads _ s).trans (setMount_leads _ _)

theorem mountAbandonOk_leads (s : State) : Leads s (mountAbandonOk s) := by
  unfold mountAbandonOk
  split
  · exact .refl
  · split
    · refine Relation.ReflTransGen.trans ?_ (recoverAnchor_leads _)
      rw [view_acknowledge]
    · exact recoverAnchor_leads _

theorem mountOpOk_leads (o : Op) (d : List Beat) (s : State) : Leads s (mountOpOk o d s) := by
  unfold mountOpOk
  split
  · exact .refl
  · split
    · exact scanReadOk_leads _ _
    · exact mountReplayReadOk_leads _ _
    · exact mountRestoreOk_leads _
    · exact mountAbandonOk_leads _

theorem mountIncident_leads (o : Op) (m : Mount) (s : State) : Leads s (mountIncident o m s) := by
  unfold mountIncident
  simp only []
  split
  · exact .refl
  · exact addIncident_leads _ _
  · exact addIncident_leads _ _
  · exact addIncident_leads _ _

theorem mountOpFailed_leads (o : Op) (s : State) : Leads s (mountOpFailed o s) := by
  unfold mountOpFailed
  split
  · exact .refl
  · exact (mountIncident_leads _ _ _).trans (endMount_leads _ _)

theorem mountAnchorOk_leads (s : State) : Leads s (mountAnchorOk s) := by
  unfold mountAnchorOk
  split
  · exact .refl
  · split
    · rw [Leads, view_raiseClaim, view_setMount]
    · exact completeMount_leads _ _ _ _
    · exact .refl

theorem recoverAnchorOk_leads (w : AnchorWrite) (s : State) : Leads s (recoverAnchorOk w s) := by
  unfold recoverAnchorOk
  split
  · exact .refl
  · exact completeMount_leads _ _ _ _

/-! ### What the Mount Engine asks for -/

theorem mountIssue_leads {s t : State} (h : mountIssue? s = some t) : Leads s t := by
  unfold mountIssue? at h
  split at h
  · cases h
  · split at h
    · split at h
      · split at h
        · cases h; exact request_leads nofun
        · split at h
          · cases h; exact request_leads nofun
          · cases h
      · split at h
        · split at h
          · cases h
          · cases h; exact request_leads nofun
        · cases h
      · split at h
        · split at h
          · cases h
          · cases h; exact request_leads nofun
        · cases h
      · split at h
        · split at h
          · cases h
          · cases h; exact request_leads nofun
        · cases h
      · cases h
    · cases h

theorem mountRestoreIssue_leads {s t : State} (h : mountRestoreIssue? s = some t) : Leads s t := by
  unfold mountRestoreIssue? at h
  split at h
  · cases h
  · split at h
    · split at h
      · simp only [] at h
        split at h
        · cases h
          exact (setMount_leads _ s).trans (request_leads nofun)
        · cases h
          exact setMount_leads _ s
      · cases h
    · split at h
      · cases h
        exact request_leads nofun
      · cases h
    · cases h

end Sys2Proof.Machine
end

