-- ==== Sys2Proof/Laws/Answers.lean ====
section
/-! SUPPORT. Memory's answers, timeouts and reissues (Machine/Dport.lean, Machine/Settle.lean) as runs of moves. -/

namespace Sys2Proof.Machine

/-! ### Ends of operations -/

theorem filterInFlight_leads (s : State) (p : InFlight → Bool) : Leads s { s with inFlight := s.inFlight.filter p } :=
  Goes.one (Move.landed (a := view s) _ (List.length_filter_le _ _))

theorem entryOk_leads (p : Nat) (s : State) : Leads s (entryOk p s) := by
  unfold entryOk
  split
  · exact .refl
  · rw [Leads, view_answerWaited]
    exact (filterInFlight_leads s _).trans (dequeue_leads _ _)

theorem failMemory_leads (e : WriteEntry) (s : State) : Leads s (failMemory e s) := failEntry_leads _ _ _ _

theorem entryFailed_leads (b : Bool) (p : Nat) (s : State) : Leads s (entryFailed b p s) := by
  unfold entryFailed
  split
  · exact .refl
  · refine Relation.ReflTransGen.trans ?_ (failMemory_leads _ _)
    split
    · exact Leads.same (by simp [view])
    · exact filterInFlight_leads s _

theorem readEnds_leads (p : Nat) (st : Status) (d : List Beat) (s : State) : Leads s (readEnds p st d s) := by
  unfold readEnds
  split
  · exact .refl
  · rw [Leads, view_respond]
    exact Goes.one (Move.readOut (a := view s) _ (List.length_filter_le _ _))

theorem readFailed_leads (p : Nat) (s : State) : Leads s (readFailed p s) := by
  unfold readFailed
  split
  · exact .refl
  · exact readEnds_leads _ _ _ _

theorem undoReadOk_leads (p : Nat) (d : List Beat) (s : State) : Leads s (undoReadOk p d s) := by
  unfold undoReadOk
  split
  · split
    · exact (endCapture_leads _ _).trans (withdraw_leads _ _)
    · rw [Leads, view_setEntry, view_setCapture]
  · exact .refl

theorem undoSlotAcked_leads (p : Nat) (s : State) : Leads s (undoSlotAcked p s) := by
  unfold undoSlotAcked
  split
  · rename_i c e _ _
    simp only []
    have h1 : Leads s (endCapture p (acknowledge c.sequence s)) := by
      refine Relation.ReflTransGen.trans ?_ (endCapture_leads _ _)
      rw [view_acknowledge]
    split
    · rw [Leads, view_setEntry]
      exact h1
    · exact h1.trans (withdraw_leads _ _)
  · exact .refl

theorem captureFailed_leads (p : Nat) (s : State) : Leads s (captureFailed p s) := by
  unfold captureFailed
  split
  · exact (endCapture_leads _ _).trans ((failMemory_leads _ _).trans ((addIncident_leads _ _).trans
      (enterFaulted_leads _)))
  · exact .refl

theorem openOk_leads (e q : Word) (s : State) : Leads s (openOk e q s) :=
  Leads.same (by rw [openOk, view_acknowledge, view_endOpenWrite])

theorem openFailed_leads (e q : Word) (s : State) : Leads s (openFailed e q s) := by
  unfold openFailed
  refine Relation.ReflTransGen.trans ?_ (enterFaulted_leads _)
  refine Relation.ReflTransGen.trans ?_ (addIncident_leads _ _)
  rw [view_endOpenWrite]

theorem closeOk_leads (s : State) : Leads s (closeOk s) := by
  unfold closeOk
  split
  · exact .refl
  · rename_i c hc
    split
    · exact .refl
    · simp only []
      rw [Leads, view_raiseClaim]
      refine Relation.ReflTransGen.trans ?_ (addCompletion_leads _ _)
      refine Leads.same ?_
      have : ∀ (x : State) (w : Option Word) (c' : ClosingRecord), x.closing.isSome = true →
          view { x with lastCommitted := w, closing := some c' } = view x := by
        intro x w c' hx; simp [view, hx]
      rw [this _ _ _ (by simp [acknowledge, State.setRing, hc]), view_acknowledge]

theorem closeFailed_leads (s : State) : Leads s (closeFailed s) := by
  unfold closeFailed
  split
  · exact .refl
  · exact (addIncident_leads _ _).trans (enterFaulted_leads _)

theorem anchorReport_leads (w : AnchorWrite) (s : State) : Leads s (anchorReport w s) := by
  unfold anchorReport
  split
  · exact Goes.one (Move.closed (a := view s))
  · exact rollbackComplete_leads _
  · split
    · exact .refl
    · split
      · exact mountAnchorOk_leads _
      · exact recoverAnchorOk_leads _ _

theorem anchorOk_leads (w : AnchorWrite) (s : State) : Leads s (anchorOk w s) := by
  unfold anchorOk
  refine Relation.ReflTransGen.trans ?_ (anchorReport_leads _ _)
  rw [view_endClaim]
  exact setRing_anchored_leads _ _

theorem anchorFailed_leads (w : AnchorWrite) (s : State) : Leads s (anchorFailed w s) := by
  unfold anchorFailed
  simp only []
  have h : Leads s (addIncident (anchorIncident w) (endClaim w.claimant s)) := by
    refine Relation.ReflTransGen.trans ?_ (addIncident_leads _ _)
    rw [view_endClaim]
  split
  · exact h.trans (endMount_leads _ _)
  · exact h.trans (enterFaulted_leads _)

theorem orphanOk_leads (w : Orphan) (s : State) : Leads s (orphanOk w s) := by
  cases w with
  | slot e q => exact Leads.same (view_acknowledge q s)
  | anchor w => exact setRing_anchored_leads w s
  | restore g e q => exact .refl
  | slotRead => exact .refl

theorem orphanFailed_leads (w : Orphan) (s : State) : Leads s (orphanFailed w s) := by
  cases w with
  | slot e q => exact addIncident_leads _ _
  | anchor w => exact addIncident_leads _ _
  | restore g e q => exact addIncident_leads _ _
  | slotRead => exact .refl

/-! ### Final results -/

theorem finalOk_leads (o : Op) (d : List Beat) (s : State) : Leads s (finalOk o d s) := by
  unfold finalOk
  split
  · exact entryOk_leads _ _
  · exact readEnds_leads _ _ _ _
  · split
    · exact undoReadOk_leads _ _ _
    · exact undoSlotAcked_leads _ _
  · exact openOk_leads _ _ _
  · exact closeOk_leads _
  · exact rollbackOpOk_leads _ _ _
  · exact mountOpOk_leads _ _ _
  · exact anchorReadDone_leads _ _ _
  · exact anchorOk_leads _ _
  · exact orphanOk_leads _ _

theorem finalFail_leads (o : Op) (b : Bool) (s : State) : Leads s (finalFail o b s) := by
  unfold finalFail
  split
  · exact entryFailed_leads _ _ _
  · exact readFailed_leads _ _
  · exact captureFailed_leads _ _
  · exact openFailed_leads _ _ _
  · exact closeFailed_leads _
  · exact rollbackOpFailed_leads _ _
  · exact mountOpFailed_leads _ _
  · exact anchorReadDone_leads _ _ _
  · exact anchorFailed_leads _ _
  · exact orphanFailed_leads _ _

/-! ### Answers -/

/-- What it takes to be the IN_FLIGHT record of a tag. -/
theorem flyingAt_spec {s : State} {t : DownTag} {o : Op} (h : s.flyingAt t = some o) :
    o ∈ s.ops ∧ o.phase.tag? = some t := by
  unfold State.flyingAt at h
  refine ⟨List.mem_of_find?_eq_some h, ?_⟩
  have := List.find?_some h
  simpa using (by revert this; cases o.phase <;> simp [Op.flying, OpPhase.tag?])

theorem addIncident_ops (i : Incident) (s : State) : (addIncident i s).ops = s.ops := by
  unfold addIncident
  split <;> simp [latch]

theorem view_holdOp (o : Op) (t : DownTag) (p : Bool) (s : State) :
    view (holdOp o t p s) = (view s).setOp o.ready (fun k => { k with tag := some t, flying := false }) := by
  unfold holdOp
  have : ∀ l : List Op,
      (l.map (fun o' => if o'.ready = o.ready then { o' with phase := .held t, persisting := p } else o')).map Op.key
        = (l.map Op.key).map (fun k => if k.ready = o.ready then { k with tag := some t, flying := false } else k) := by
    intro l
    simp only [List.map_map]
    refine List.map_congr_left ?_
    intro a _
    by_cases h : a.ready = o.ready <;> simp [Op.key, h, OpPhase.tag?, Op.flying]
  simp only [view, State.setOp, View.setOp, this]

theorem holdOp_leads {o : Op} {t : DownTag} (p : Bool) {s : State} (h : o ∈ s.ops) (w : o.phase.tag? = some t) :
    Leads s (holdOp o t p s) := by
  rw [Leads, view_holdOp]
  exact Goes.one (Move.held (a := view s) o.key t (List.mem_map_of_mem h) w)

theorem busyOp_leads {o : Op} {t : DownTag} {s : State} (h : o ∈ s.ops) (w : o.phase.tag? = some t) :
    Leads s (busyOp o t s) := by
  unfold busyOp
  split
  · exact holdOp_leads _ h w
  · split
    · exact (dropOp_leads _ _).trans (finalFail_leads _ _ _)
    · exact (addIncident_leads _ _).trans (holdOp_leads _ (by rw [addIncident_ops]; exact h) w)

theorem answerOp_leads {o : Op} {t : DownTag} (a : MemoryAnswer) (d : List Beat) {s : State} (h : o ∈ s.ops)
    (w : o.phase.tag? = some t) : Leads s (answerOp o t a d s) := by
  unfold answerOp
  split
  · split
    · exact (dropOp_leads _ _).trans (finalOk_leads _ _ _)
    · exact (dropOp_leads _ _).trans (finalFail_leads _ _ _)
  · exact busyOp_leads h w
  · exact (dropOp_leads _ _).trans (finalFail_leads _ _ _)

theorem lateOp_leads (t : DownTag) (s : State) : Leads s (lateOp t s) := by
  unfold lateOp
  refine Relation.ReflTransGen.trans (b := view { s with quarantined := s.quarantined.filter (fun q => q != t) }) ?_ ?_
  · exact Goes.one (Move.late (a := view s) t)
  · exact filterInFlight_leads { s with quarantined := s.quarantined.filter (fun q => q != t) } _

theorem answer_leads {t : DownTag} {a : MemoryAnswer} {d : List Beat} {s u : State} (h : answer? t a d s = some u) :
    Leads s u := by
  unfold answer? at h
  split at h
  · cases h
    exact lateOp_leads _ _
  · split at h
    · cases h
    · rename_i o ho
      cases h
      exact answerOp_leads _ _ (flyingAt_spec ho).1 (flyingAt_spec ho).2

theorem timeout_leads {t : DownTag} {s u : State} (h : timeout? t s = some u) : Leads s u := by
  unfold timeout? at h
  split at h
  · cases h
  · rename_i o ho
    simp only [] at h
    cases h
    obtain ⟨hm, ht⟩ := flyingAt_spec ho
    refine Relation.ReflTransGen.trans ?_ (finalFail_leads _ _ _)
    refine Relation.ReflTransGen.trans ?_ (addIncident_leads _ _)
    refine Goes.one ?_
    have := Move.timedOut (a := view s) o.key t (List.mem_map_of_mem hm) ht
    simpa [view, State.dropOp, List.filter_map, Function.comp_def, Op.key] using this

/-! ### Grants and reissues -/

theorem bestOp_mem {l : List Op} {o : Op} (h : bestOp l = some o) : o ∈ l := by
  induction l generalizing o with
  | nil => cases h
  | cons x l ih =>
    unfold bestOp at h
    split at h
    · cases h; exact List.mem_cons_self
    · rename_i b hb
      split at h <;> cases h
      · exact List.mem_cons_of_mem _ (ih hb)
      · exact List.mem_cons_self

theorem tagGrant_leads {s t : State} (h : tagGrant? s = some t) : Leads s t := by
  unfold tagGrant? at h
  split at h
  · rename_i o d ho hd
    cases h
    have hm := List.mem_filter.mp (bestOp_mem ho)
    simp only [Bool.and_eq_true] at hm
    refine grant_leads hm.1 ?_ (freeTag_free hd)
    revert hm
    unfold Op.isWaiting
    cases o.phase <;> simp
  · cases h

theorem reissueAt_leads {d : DownTag} {s t : State} (h : reissueAt? d s = some t) : Leads s t := by
  unfold reissueAt? at h
  split at h
  · cases h
  · rename_i o ho
    split at h
    · cases h
      have hp := List.find?_some ho
      refine sendOp_leads (List.mem_of_find?_eq_some ho) (.inr ?_)
      have : o.phase = .held d := by simpa using hp
      simp [this, OpPhase.tag?]
    · cases h

theorem reissue_leads {s t : State} (h : reissue? s = some t) : Leads s t := by
  unfold reissue? at h
  split at h
  · cases h
  · rename_i o ho
    split at h
    · rename_i d hd
      cases h
      exact sendOp_leads (List.mem_of_find?_eq_some ho) (.inr (by simp [hd, OpPhase.tag?]))
    · cases h

end Sys2Proof.Machine
end

