-- ==== Sys2Proof/Laws/Step.lean ====
section
/-! SUPPORT. Every command, and every step, as a run of moves. -/

namespace Sys2Proof.Machine

/-! ### Resets -/

theorem holdFromPfw_leads {a : View} {s : State} (h : Goes a { view s with hold := .run }) :
    Goes a (view (holdFromPfw s)) := by
  unfold holdFromPfw
  split
  · rename_i hp
    refine h.trans (Goes.one ?_)
    have := Move.holding (a := { view s with hold := .run }) hp
    simpa [view] using this
  · simpa [view] using h

theorem enterSafe_leads {s t : State} (h : enterSafe? s = some t) : Leads s t := by
  unfold enterSafe? at h
  split at h
  · rename_i hc
    cases h
    rw [Leads, view_latch]
    refine Goes.one ?_
    have hq := hc.2
    simp only [State.quiet, Bool.and_eq_true, Bool.not_eq_true'] at hq
    have := Move.safe (a := view s) hc.1 (by
      intro k hk
      simp only [view, List.mem_map] at hk
      obtain ⟨o, ho, rfl⟩ := hk
      have := List.any_eq_false.mp hq.1 o ho
      simpa [Op.key] using this)
    simpa [view] using this
  · cases h

theorem warned_leads (s : State) : Leads s { s with pfw := true } := Goes.one (Move.warned (a := view s))

theorem pfwAsserted_leads (s : State) : Leads s (pfwAsserted s) := by
  unfold pfwAsserted
  simp only []
  split
  · refine (warned_leads s).trans ?_
    refine Relation.ReflTransGen.trans ?_ (cancelWaiting_leads _ _)
    refine Goes.one ?_
    have := Move.holding (a := view { s with pfw := true }) rfl
    simpa [view] using this
  · exact warned_leads s

theorem pfwReleased_leads (s : State) : Leads s (pfwReleased s) := Goes.one (Move.released (a := view s))

theorem view_flyingTags (s : State) : (view s).flyingTags = s.flyingTags := by
  simp [View.flyingTags, State.flyingTags, view, List.filter_map, List.filterMap_map, Function.comp_def, Op.key]

theorem resetPart_leads (q : Byte) (s : State) : Leads s (resetPart q s) := by
  unfold resetPart
  refine holdFromPfw_leads (Goes.one ?_)
  have hn : s.keptInFlight.length ≤ s.inFlight.length := by
    simp only [State.keptInFlight, List.length_map]
    exact List.length_filter_le _ _
  have := Move.resetPart (a := view s) s.keptInFlight.length hn
  rw [view_flyingTags] at this
  simpa [view, View.cleared, View.endActive, clearBlocks] using this

theorem softReset_leads {s t : State} (h : softReset? s = some t) : Leads s t := by
  unfold softReset? at h
  split at h
  · cases h
  · split at h
    · cases h
      exact resetPart_leads _ _
    · cases h

theorem rstAsserted_leads (s : State) : Leads s (rstAsserted s) := by
  refine Goes.one ?_
  have := Move.rstHeld (a := view s)
  simpa [view, View.cleared, View.endActive, clearBlocks, rstAsserted] using this

theorem view_holdFromPfw (s : State) :
    view (holdFromPfw s) = { view s with hold := if s.pfw then .holding else .run } := by
  unfold holdFromPfw
  split <;> simp [view, *]

theorem view_recoverStart (x : State) :
    view (startMount .recover .auto 0 x) =
      { view x with controller := .mounting, mount := true, ring := none, request := false,
                    ops := (x.ops.filter (fun o => !o.heldJournalWrite)).map Op.key } := rfl

theorem holdFromPfw_ops (s : State) : (holdFromPfw s).ops = s.ops := by
  unfold holdFromPfw
  split <;> rfl

theorem rstReleased_leads (st : Straps) (s : State) : Leads s (rstReleased st s) := by
  unfold rstReleased
  split
  · rename_i hr
    simp only []
    generalize hx : ({ s with
        rstHeld := false, settings := defaultSettings st, modeInForce := .drain,
        transaction := if s.mcs = true then some (openTransaction emptyFrame) else none } : State) = x
    have hv : view x = { view s with rstHeld := false, settings := defaultSettings st } := by rw [← hx]; rfl
    have ho : x.ops = s.ops := by rw [← hx]
    have hp : x.pfw = s.pfw := by rw [← hx]
    split
    · rw [Leads, view_recoverStart, view_holdFromPfw, hv, holdFromPfw_ops, ho, hp]
      refine (dropHeld_leads s).trans ((ringGone_leads _).trans ?_)
      refine .head (Move.run (a := _)) (.head (Move.rstMounts (a := _) st hr) ?_)
      by_cases h : s.pfw = true
      · refine Goes.one ?_
        have := Move.holding (a :=
          { view { s with ops := s.ops.filter (fun o => !o.heldJournalWrite), ring := none } with
            hold := .run, rstHeld := false, settings := defaultSettings st, controller := .mounting, mount := true,
            request := false }) h
        simpa [view, h] using this
      · simp [view, h]
        exact .refl
    · refine holdFromPfw_leads ?_
      rw [hv]
      exact .head (Move.run (a := view s)) (Goes.one (Move.rstReleased (a := { view s with hold := .run }) st))
  · exact .refl

/-! ### The part's own steps -/

/-- Every step of the part by itself is a run of moves. -/
theorem internalSteps_leads : ∀ f ∈ internalSteps, ∀ s t : State, f s = some t → Leads s t := by
  intro f hf s t h
  simp only [internalSteps, List.mem_cons, List.not_mem_nil, or_false] at hf
  rcases hf with rfl | rfl | rfl | rfl | rfl | rfl | rfl | rfl | rfl | rfl | rfl | rfl | rfl | rfl | rfl | rfl |
    rfl | rfl | rfl | rfl
  · exact tagGrant_leads h
  · exact reissue_leads h
  · exact spaceGranted_leads h
  · exact captureStart_leads h
  · exact closerCapturingDone_leads h
  · exact rollbackSettled_leads h
  · exact pendingAutoCommit_leads h
  · exact mountFromFaulted_leads h
  · exact openWriteIssue_leads h
  · exact captureIssue_leads h
  · exact closeWriteIssue_leads h
  · exact anchorClaimIssue_leads h
  · exact rollbackIssue_leads h
  · exact rollbackRestoreIssue_leads h
  · exact mountIssue_leads h
  · exact mountRestoreIssue_leads h
  · exact dataWriteIssue_leads h
  · exact dataReadIssue_leads h
  · exact softReset_leads h
  · exact enterSafe_leads h

/-- A step of a list that can be taken is one of the list's. -/
theorem firstStep_spec {l : List (State → Option State)} {s t : State} (h : firstStep l s = some t) :
    ∃ f ∈ l, f s = some t := by
  induction l with
  | nil => cases h
  | cons f l ih =>
    unfold firstStep at h
    split at h
    · rename_i u hu
      cases h
      exact ⟨f, List.mem_cons_self, hu⟩
    · obtain ⟨g, hg, e⟩ := ih h
      exact ⟨g, List.mem_cons_of_mem _ hg, e⟩

/-- A relation that every step of the part keeps is kept by an event carried to its end. -/
theorem settle_induct {P : State → State → Prop} (refl : ∀ s, P s s) (trans : ∀ s t u, P s t → P t u → P s u)
    (one : ∀ f ∈ internalSteps, ∀ s t, f s = some t → P s t) (s : State) : P s (settle s) := by
  have : ∀ (n : Nat) (s : State), P s (settleFor n s) := by
    intro n
    induction n with
    | zero => exact fun s => refl s
    | succ n ih =>
      intro s
      unfold settleFor
      split
      · exact refl s
      · rename_i t ht
        obtain ⟨f, hf, e⟩ := firstStep_spec ht
        exact trans _ _ _ (one f hf s t e) (ih t)
  exact this _ s

theorem settle_leads (s : State) : Leads s (settle s) :=
  settle_induct (P := Leads) (fun _ => .refl) (fun _ _ _ h g => Relation.ReflTransGen.trans h g) internalSteps_leads s

theorem internalStep_leads {f : State → Option State} (h : ∀ s t, f s = some t → Leads s t) (s : State) :
    Leads s (internalStep f s) := by
  unfold internalStep
  split
  · rename_i t ht
    exact Relation.ReflTransGen.trans (h s t ht) (settle_leads t)
  · exact .refl

/-! ### The U-port -/

theorem queueTest_write {s : State} {c cls : EntryClass} {a ack : AckMode} (h : s.queueTest c a = .write cls ack) :
    s.writeQueue.length < 32 := by
  unfold State.queueTest at h
  split at h
  · assumption
  · cases h

theorem queueTest_autoOpen {s : State} {c : EntryClass} {a ack : AckMode} (h : s.queueTest c a = .autoOpen ack) :
    False := by
  unfold State.queueTest at h
  split at h <;> cases h

theorem admitWrite_write {s : State} {r : WriteRequest} {cls : EntryClass} {ack : AckMode}
    (h : s.admitWrite r = .write cls ack) : s.writeQueue.length < 32 := by
  simp only [State.admitWrite, State.classifiedWrite, State.journaledTest, State.autoOpenTest] at h
  repeat' split at h
  all_goals first
    | exact queueTest_write h
    | cases h

theorem admitWrite_autoOpen {s : State} {r : WriteRequest} {ack : AckMode}
    (h : s.admitWrite r = .autoOpen ack) : s.writeQueue.length < 32 ∧ s.controller = .idle := by
  simp only [State.admitWrite, State.classifiedWrite, State.journaledTest, State.autoOpenTest] at h
  repeat' split at h
  all_goals first
    | exact (queueTest_autoOpen h).elim
    | exact ⟨by assumption, by assumption⟩
    | cases h

theorem admitRead_read {s : State} {r : ReadRequest} (h : s.admitRead r = .read) : s.readTracker.length < 8 := by
  unfold State.admitRead at h
  repeat' split at h
  all_goals first
    | assumption
    | cases h

theorem refuseProtected_leads (k : IncidentKind) (a : Word) (i : Initiator) (t : UpTag) (s : State) :
    Leads s (refuseProtected k a i t s) := by
  unfold refuseProtected
  refine Relation.ReflTransGen.trans ?_ (addIncident_leads _ _)
  rw [view_respond]

theorem openEpoch_queue (o : Trigger) (s : State) : (openEpoch o s).writeQueue = s.writeQueue := by
  have h1 : ∀ (x : State) (f : Nat → Nat), (x.owe f).writeQueue = x.writeQueue := fun _ _ => rfl
  have h2 : ∀ x : State, (allocateOpen x).writeQueue = x.writeQueue := by
    intro x
    unfold allocateOpen
    split
    · rename_i a slot s1 _ hs
      obtain ⟨r, k, rfl⟩ := allocate_rest hs
      rfl
    · rfl
  have h3 : ∀ x : State, (latchAuto o x).writeQueue = x.writeQueue := by
    intro x; cases o <;> rfl
  unfold openEpoch
  simp only []
  rw [h3]
  split
  · rw [h1]
  · rw [h1, h2]

theorem takeWrite_leads (r : WriteRequest) (s : State) : Leads s (takeWrite r s).1 := by
  unfold takeWrite
  split
  · exact Leads.same (view_respond _ _ _ _)
  · exact Leads.same (view_respond _ _ _ _)
  · exact refuseProtected_leads _ _ _ _ _
  · rename_i h
    exact acceptWrite_leads _ _ _ (admitWrite_write h)
  · rename_i h
    obtain ⟨hq, hi⟩ := admitWrite_autoOpen h
    exact Relation.ReflTransGen.trans (openEpoch_leads .auto hi)
      (acceptWrite_leads _ _ _ (by rw [openEpoch_queue]; exact hq))
  · exact .refl

theorem takeRead_leads (r : ReadRequest) (s : State) : Leads s (takeRead r s).1 := by
  unfold takeRead
  split
  · exact Leads.same (view_respond _ _ _ _)
  · exact Leads.same (view_respond _ _ _ _)
  · exact refuseProtected_leads _ _ _ _ _
  · rename_i h
    exact acceptRead_leads _ (admitRead_read h)
  · exact .refl

theorem arrival_leads {s : State} {p : State × Bool} (h : Leads s p.1) : Leads s (arrival p) := by
  unfold arrival
  split
  · exact Relation.ReflTransGen.trans h (settle_leads _)
  · exact h

/-! ### The M-link -/

theorem put_legal {t u : Settings} {id : Nat} {v : Word} (h : t.put id v = some u) (l : t.legal = true) :
    u.legal = true := by
  simp only [Settings.legal, Bool.and_eq_true, decide_eq_true_eq] at l ⊢
  unfold Settings.put at h
  split at h
  all_goals (try cases h)
  all_goals (repeat' split at h)
  all_goals (try cases h)
  all_goals simp_all

theorem regionOfArgs_legal {b e c a m : Word} {r : Region} (h : regionOfArgs b e c a m = some r) : r.legal = true := by
  unfold regionOfArgs at h
  split at h
  · split at h
    · rename_i hc
      cases h
      simp [Region.legal, hc.1, hc.2.1, hc.2.2.1]
    · cases h
  · cases h

theorem setRegion_leads (i : Nat) (x : Option Region) (h : ∀ r, x = some r → r.legal = true) (s : State) :
    Leads s { s with regions := s.regions.set i x } := Goes.one (Move.region (a := view s) i x h)

theorem mountReply_leads (k : MountKind) (w : Word) {s : State} (hr : s.rstHeld = false) : Leads s (mountReply k w s).state := by
  unfold mountReply
  split
  · exact .refl
  · rename_i h1
    split
    · exact .refl
    · rename_i h2
      split
      · exact .refl
      · split
        · exact .refl
        · split
          · exact .refl
          · split
            · rename_i h
              exact startMount_leads _ _ _ (.inl ⟨h, hr⟩)
            · rename_i h3
              refine Goes.one ?_
              have := Move.mountWaits (a := view s) (by
                show s.controller = .faulted
                cases hc : s.controller <;> simp_all)
              simpa [view, actReply] using this

theorem reply_leads (c : LinkCommand) (q : Byte) (args : List Word) {s : State} (hr : s.rstHeld = false) :
    Leads s (c.reply q args s).state := by
  cases c with
  | nop => exact .refl
  | readStatus => exact .refl
  | beginEpoch =>
    show Leads s (beginReply s).state
    unfold beginReply
    split
    · exact .refl
    · split
      · exact .refl
      · split
        · exact .refl
        · split
          · exact .refl
          · split
            · exact .refl
            · split
              · exact .refl
              · refine openEpoch_leads .host ?_
                cases hc : s.controller <;> simp_all
  | commitEpoch =>
    show Leads s (commitReply s).state
    unfold commitReply
    split
    · exact .refl
    · split
      · exact .refl
      · split
        · exact .refl
        · split
          · exact .refl
          · split
            · exact .refl
            · split
              · exact .refl
              · split
                · exact .refl
                · refine acceptCommit_leads .host ?_
                  cases hc : s.controller <;> simp_all
  | abortEpoch =>
    show Leads s (abortReply s).state
    unfold abortReply
    split
    · exact .refl
    · split
      · exact .refl
      · split
        · exact .refl
        · split
          · exact .refl
          · split
            · exact .refl
            · split
              · exact .refl
              · refine acceptAbort_leads ?_
                cases hc : s.controller <;> simp_all
  | formatJournal => exact mountReply_leads _ _ hr
  | recoverJournal => exact mountReply_leads _ _ hr
  | setParam =>
    show Leads s (setParamReply args s).state
    unfold setParamReply
    simp only []
    split
    · exact .refl
    · rename_i t ht
      split
      · exact .refl
      · exact Goes.one (Move.setting (a := view s) t (put_legal ht))
  | getParam =>
    show Leads s (getParamReply args s).state
    unfold getParamReply
    split <;> exact .refl
  | writeRegion =>
    show Leads s (writeRegionReply args s).state
    unfold writeRegionReply
    simp only []
    split
    · exact .refl
    · split
      · exact setRegion_leads _ _ (by simp) s
      · split
        · exact .refl
        · rename_i r hr
          exact setRegion_leads _ _ (by intro r' h; cases h; exact regionOfArgs_legal hr) s
      · exact .refl
  | readRegion =>
    show Leads s (readRegionReply args s).state
    unfold readRegionReply
    simp only []
    split <;> exact .refl
  | readAlerts => exact .refl
  | clearAlerts =>
    show Leads s (clearAlertsReply args s).state
    unfold clearAlertsReply
    simp only []
    split <;> exact .refl
  | popIncident =>
    show Leads s (popIncidentReply s).state
    unfold popIncidentReply
    split
    · exact .refl
    · rename_i i rest hi
      refine Goes.one ?_
      have := Move.popped (a := view s) rest.length (by simp [view, hi])
      simpa [view, doneReply] using this
  | popCompletion =>
    show Leads s (popCompletionReply s).state
    unfold popCompletionReply
    split
    · exact .refl
    · rename_i c rest hc
      refine Goes.one ?_
      have := Move.poppedCompletion (a := view s)
      simpa [view, doneReply, hc] using this
  | resetPart =>
    show Leads s (resetPartReply q args s).state
    unfold resetPartReply
    split
    · unfold softResetReply
      split
      · exact .refl
      · exact Goes.one (Move.mountDropped (a := view s))
    · exact resetPart_leads _ _
    · exact .refl

theorem counted_leads (c : LinkCommand) (r : LinkRequest) {s : State} (hr : s.rstHeld = false) :
    Leads s (counted c r s).state := by
  unfold counted
  split
  · exact reply_leads _ _ _ hr
  · exact .refl

theorem dispatch_leads (code : Byte) (r : LinkRequest) {s : State} (hr : s.rstHeld = false) :
    Leads s (dispatch code r s).state := by
  unfold dispatch
  split
  · exact .refl
  · exact counted_leads _ _ hr

theorem takeReply_leads (q : Byte) (f : State → Reply) (h : ∀ s, s.rstHeld = false → Leads s (f s).state)
    (s : State) :
    Leads s (takeReply q f s) := by
  unfold takeReply
  split
  · exact .refl
  · rename_i hr
    have hs := h s (by simpa using hr)
    simp only []
    split
    · refine Relation.ReflTransGen.trans ?_ (settle_leads _)
      exact hs
    · exact hs

/-! ### Commands and steps -/

theorem eventOf_leads {e : Option State} {s t : State} (h : ∀ u, e = some u → Leads s u)
    (g : eventOf e s = .next t) : Leads s t := by
  unfold eventOf at g
  split at g
  · rename_i u
    cases g
    exact Relation.ReflTransGen.trans (h u rfl) (settle_leads u)
  · cases g
    exact .refl

theorem ownStep_leads {f : State → Option State} {s t : State} (h : ∀ s t, f s = some t → Leads s t)
    (g : ownStep f s = .next t) : Leads s t := by
  unfold ownStep at g
  cases g
  exact internalStep_leads h s

theorem linkStep_leads {c : LinkCommand} {r : LinkRequest} {s t : State} (g : linkStep c r s = .next t) :
    Leads s t := by
  unfold linkStep at g
  cases g
  exact takeReply_leads _ _ (fun _ => counted_leads c r) s

theorem finalAnswer_leads {d : DownTag} {a : FinalAnswer} {b : List Beat} {s t : State}
    (g : finalAnswer d a b s = .next t) : Leads s t :=
  eventOf_leads (fun _ h => answer_leads h) g

/-- Every command is a run of moves. -/
theorem exec_leads {c : Instr} {s t : State} (g : exec c s = .next t) : Leads s t := by
  cases c with
  | writeRequest r =>
    cases g
    split
    · exact .refl
    · exact arrival_leads (takeWrite_leads r s)
  | readRequest r =>
    cases g
    split
    · exact .refl
    · exact arrival_leads (takeRead_leads r s)
  | nop r => exact linkStep_leads g
  | readStatus r => exact linkStep_leads g
  | beginEpoch r => exact linkStep_leads g
  | commitEpoch r => exact linkStep_leads g
  | abortEpoch r => exact linkStep_leads g
  | formatJournal r => exact linkStep_leads g
  | recoverJournal r => exact linkStep_leads g
  | setParam r => exact linkStep_leads g
  | getParam r => exact linkStep_leads g
  | writeRegion r => exact linkStep_leads g
  | readRegion r => exact linkStep_leads g
  | readAlerts r => exact linkStep_leads g
  | clearAlerts r => exact linkStep_leads g
  | popIncident r => exact linkStep_leads g
  | popCompletion r => exact linkStep_leads g
  | resetPartSoft r => exact linkStep_leads g
  | resetPartForce r => exact linkStep_leads g
  | frameError bits =>
    replace g : execFrameError bits s = .next t := g
    unfold execFrameError at g
    split at g
    · cases g
      exact takeReply_leads _ (fun x => refusal .frameError [] x) (fun _ _ => .refl) s
    · cases g
      exact takeReply_leads _ _ (fun _ => dispatch_leads _ _) s
  | unknownCommand code r =>
    cases g
    exact takeReply_leads _ _ (fun _ => dispatch_leads _ _) s
  | softResetTakesPlace => exact ownStep_leads (fun _ _ => softReset_leads) g
  | pfwAssert =>
    cases g
    exact Relation.ReflTransGen.trans (pfwAsserted_leads s) (settle_leads _)
  | pfwRelease =>
    cases g
    exact Relation.ReflTransGen.trans (pfwReleased_leads s) (settle_leads _)
  | enterSafe => exact ownStep_leads (fun _ _ => enterSafe_leads) g
  | rstAssert =>
    cases g
    exact rstAsserted_leads s
  | rstRelease st =>
    cases g
    exact Relation.ReflTransGen.trans (rstReleased_leads st s) (settle_leads _)
  | spaceWaitExpiry => exact eventOf_leads (fun _ => spaceWaitExpires_leads) g
  | spaceGranted => exact ownStep_leads (fun _ _ => spaceGranted_leads) g
  | autoCommitExpiry => exact eventOf_leads (fun _ => autoCommitExpires_leads) g
  | pendingAutoCommitTaken => exact ownStep_leads (fun _ _ => pendingAutoCommit_leads) g
  | dsTimeout tag => exact eventOf_leads (fun _ => timeout_leads) g
  | busyAnswer tag => exact eventOf_leads (fun _ => answer_leads) g
  | reissue tag => exact ownStep_leads (fun _ _ => reissueAt_leads) g
  | lateAnswer tag a => exact eventOf_leads (fun _ => answer_leads) g
  | tagGrant => exact ownStep_leads (fun _ _ => tagGrant_leads) g
  | dataWriteIssue => exact ownStep_leads (fun _ _ => dataWriteIssue_leads) g
  | dataWriteAnswer tag a => exact finalAnswer_leads g
  | dataReadIssue => exact ownStep_leads (fun _ _ => dataReadIssue_leads) g
  | dataReadAnswer tag a d => exact finalAnswer_leads g
  | captureStart => exact ownStep_leads (fun _ _ => captureStart_leads) g
  | undoReadAnswer tag a d => exact finalAnswer_leads g
  | undoSlotWriteAnswer tag a => exact finalAnswer_leads g
  | openSlotWriteAnswer tag a => exact finalAnswer_leads g
  | closerCapturingDone => exact ownStep_leads (fun _ _ => closerCapturingDone_leads) g
  | closeWriteIssue => exact ownStep_leads (fun _ _ => closeWriteIssue_leads) g
  | closeSlotWriteAnswer tag a => exact finalAnswer_leads g
  | anchorClaimIssue => exact ownStep_leads (fun _ _ => anchorClaimIssue_leads) g
  | anchorWriteAnswer tag a => exact finalAnswer_leads g
  | rollbackSettled => exact ownStep_leads (fun _ _ => rollbackSettled_leads) g
  | rollbackSlotReadAnswer tag a d => exact finalAnswer_leads g
  | rollbackRestoreIssue => exact ownStep_leads (fun _ _ => rollbackRestoreIssue_leads) g
  | rollbackRestoreAnswer tag a => exact finalAnswer_leads g
  | rollbackAbandonAnswer tag a => exact finalAnswer_leads g
  | anchorReadAnswer tag a d => exact finalAnswer_leads g
  | formatAnchorWriteAnswer tag a => exact finalAnswer_leads g
  | scanSlotReadAnswer tag a d => exact finalAnswer_leads g
  | mountReplayReadAnswer tag a d => exact finalAnswer_leads g
  | mountRestoreIssue => exact ownStep_leads (fun _ _ => mountRestoreIssue_leads) g
  | mountRestoreAnswer tag a => exact finalAnswer_leads g
  | mountAbandonAnswer tag a => exact finalAnswer_leads g
  | mountFromFaulted => exact ownStep_leads (fun _ _ => mountFromFaulted_leads) g
  | orphanOperationAnswer tag a d => exact finalAnswer_leads g
  | mcsAsserted =>
    cases g
    split
    · exact .refl
    · split <;> exact .refl

theorem later_key (o : Op) : o.later.key = o.key := by
  unfold Op.later
  split
  · rename_i h
    simp [Op.key, h, OpPhase.tag?, Op.flying]
  · rfl

theorem view_advanceTime (s : State) : view (advanceTime s) = view s := by
  simp [view, advanceTime, List.map_map, Function.comp_def, later_key]

/-- An MCK cycle takes the bit at the front of `mdi` into the transaction, and changes nothing else. -/
theorem mckCycle?_eq {s t : State} (h : mckCycle? s = some t) :
    ∃ tr bit rest, s.transaction = some tr ∧ s.mdi = bit :: rest ∧
      t = { s with transaction := some (tr.cycle bit), mdi := rest } := by
  unfold mckCycle? at h
  split at h
  · rename_i tr bit rest ht hm
    exact ⟨tr, bit, rest, ht, hm, (Option.some.inj h).symm⟩
  · cases h

theorem view_passTime (s : State) : view (passTime s) = view s := by
  unfold passTime
  cases h : mckCycle? s with
  | none => exact view_advanceTime s
  | some t =>
    obtain ⟨_, _, _, _, _, rfl⟩ := mckCycle?_eq h
    rfl

/-- Every step is a run of moves. -/
theorem step_leads {s t : State} (h : step s = .next t) : Leads s t := by
  unfold step at h
  split at h
  · unfold idle at h
    split at h
    · exact exec_leads h
    · cases h
      exact Leads.same (view_passTime s)
  · exact exec_leads (s := s.dropFront) h

end Sys2Proof.Machine
end

