-- ==== Sys2Proof/Tests/Slice0.lean ====
section
/-! SUPPORT. The model's own tests: checks that refuse, examples of the manual, single commands on small states, and for
each statement with hypotheses a state and operands that meet them. -/

namespace Sys2Proof.Tests

-- Each test waits for the kernel: one at a time, so that the waits do not each hold a thread.
set_option Elab.async false

open Sys2Proof Sys2Proof.Machine

/-! ### Sample states -/

/-- The state after a command. -/
def after (c : Instr) (s : State) : State :=
  match exec c s with
  | .next t => t
  | _ => s

/-- A request frame of the link without arguments. -/
def bare (q : Byte) : LinkRequest := { sequence := q, args := [] }

/-- A request frame of the link. -/
def with_ (q : Byte) (args : List Word) : LinkRequest := { sequence := q, args := args }

/-- An empty ring of instance 7, anchor A in force with generation 2. -/
def sampleRing : Ring :=
  { tail := 2, tailSeq := 1, head := 2, occupancy := 0, nextSeq := 1, journal := 7, owed := 0,
    inForce := some (.a, 2), frontier := none, unacked := [], startSeq := 1 }

/-- A mounted part in IDLE: a journal of 4096 slots at 0x01000000 (R1). -/
def idleState : State :=
  { State.reset with
    settings := { State.reset.settings with journalBase := 0x01000000, journalSlots := 4096 },
    controller := .idle, geometry := some { base := 0x01000000, slots := 4096 }, ring := some sampleRing,
    nextEpoch := some 1, lastCommitted := some 0 }

/-- Epoch 1, its OPEN in the slot at position 2. -/
def sampleEpoch : EpochRecord :=
  { number := 1, origin := .host, openSlot := some ⟨2, 1⟩, undoCount := 0, filterless := 0, failed := 0, openedAt := 0 }

/-- The ring with the OPEN of epoch 1 allocated and durable. -/
def openRing : Ring :=
  { sampleRing with head := 3, occupancy := 1, nextSeq := 2, owed := 1, frontier := some 1 }

/-- Epoch 1 ACTIVE, its OPEN durable. -/
def activeState : State :=
  { idleState with controller := .active, active := some sampleEpoch, nextEpoch := some 2, ring := some openRing }

/-- A JOURNALED WAITED entry of epoch 1 that waits for its capture. -/
def sampleEntry : WriteEntry :=
  { place := 0, tag := 3, initiator := 1, granule := 0x20000000, firstBeat := 1, beats := 1, masks := [0xFF],
    data := [0x1122334455667788], ack := .waited, cls := .journaled, relation := .capture, epoch := some 1,
    slotSeq := none, stage := .queued }

/-- The capture record of `sampleEntry`. -/
def sampleRecord : CaptureRecord :=
  { entry := 0, granule := 0x20000000, epoch := 1, filterless := false, covered := [] }

/-- The capture of `sampleEntry` in progress in the slot at position 3. -/
def sampleCapture : Capture :=
  { entry := 0, position := 3, sequence := 2, ordinal := 1, step := .reading, oldBytes := none, mark := .none }

/-- An IN_FLIGHT operation under tag 0. -/
def sampleOp (kind : OpKind) (who : Requester) : Op :=
  { ready := 0, kind := kind, requester := who, address := 0x20000000, beats := 1, masks := [0xFF],
    data := [0x1122334455667788], phase := .inFlight 0 1000, retries := 0, persisting := false, timeout := some 1000 }

/-- A PLAIN POSTED entry in READY, at the place after `sampleEntry`. -/
def plainEntry : WriteEntry :=
  { sampleEntry with
    place := 1, tag := 4, ack := .posted, cls := .plain, relation := .none, epoch := none, stage := .ready }

/-- A read that waits for its tag. -/
def sampleRead : ReadEntry :=
  { place := 2, tag := 5, initiator := 0, address := 0x30000000, beats := 2, stage := .hazardWait }

/-- A WRITE of one beat. -/
def sampleWrite : WriteRequest :=
  { tag := 3, initiator := 1, address := 0x20000008, beats := 1, data := [0x1122334455667788], masks := [0xFF] }

/-- A READ of two beats. -/
def sampleReadRequest : ReadRequest :=
  { tag := 5, initiator := 0, address := 0x30000000, beats := 2, data := [], masks := [] }

/-- A JOURNALED region of 4 KiB at 0x20000000, initiator 7 exempt, WAITED. -/
def sampleRegion : Region :=
  { base := 0x20000000, exponent := 12, cls := .journaled, writeMask := 0xFE, exemptMask := 0x80, ack := .waited }

/-! ### Well-formedness: every check refuses an ill-formed term -/

/-- R181: seven arguments are too many, for every request of the link. -/
theorem test_wf_seven_arguments :
    [Instr.nop, .readStatus, .beginEpoch, .commitEpoch, .abortEpoch, .formatJournal, .recoverJournal, .setParam,
      .getParam, .writeRegion, .readRegion, .readAlerts, .clearAlerts, .popIncident, .popCompletion, .resetPartSoft,
      .resetPartForce, .unknownCommand 0xFF].all (fun c => !(c (with_ 0 [0, 0, 0, 0, 0, 0, 0])).wf) = true := by decide

/-- R189: the soft form with the argument of force, and the other way round. -/
theorem test_wf_reset_forms :
    (Instr.resetPartSoft (with_ 0 [1])).wf = false ∧ (Instr.resetPartForce (with_ 0 [0])).wf = false := by decide

/-- R184: a code of the table is no unknown command. -/
theorem test_wf_known_code : (Instr.unknownCommand 0x50 (bare 0)).wf = false := by decide

/-- R182: bits that form a frame are no frame error. -/
theorem test_wf_good_frame : (Instr.frameError (requestBits 0x01 0x12 [])).wf = false := by decide +kernel

/-- Well-formed terms pass: a SET_PARAM, a code the table lacks, a single bit. -/
theorem test_wf_accepts :
    (Instr.setParam (with_ 0 [4, 200])).wf = true ∧ (Instr.unknownCommand 0x51 (bare 0)).wf = true ∧
      (Instr.frameError [true]).wf = true := by decide

/-! ### Examples of the manual -/

/-- The check word of the anchor in the example under R6. -/
theorem test_anchor_check_word :
    (anchorSlot 7 1 0x1000 2 1 1 0).getD 15 0 = 0x5EC712F2#32 ∧ (anchorSlot 7 1 0x1000 2 1 1 0).getD 0 0 = 0x10A#32 := by
  decide

/-- R179: the empty-response frame. -/
theorem test_empty_frame : emptyFrame = [0xA5000000#32] := by decide

/-- Worked example of chapter 11: the READ_STATUS frame with sequence 0x10. -/
theorem test_read_status_frame : buildFrame 0x02 0x10 [] = [0x93001002#32] := by decide

/-- Worked example of chapter 11: the response to SET_PARAM of FULL_WAIT_US with 200, sequence 0x11. -/
theorem test_done_frame : buildFrame Response.done.code 0x11 [200] = [0xCA011101#32, 200] := by decide

/-- The layout of R181: the frame of BEGIN_EPOCH with sequence 0x21, its bits written out, is read as that command. -/
theorem test_frame_bits :
    (match judgeFrame
        [false, false, false, false, true, false, false, false, true, false, false, false, false, true, false, false,
         false, false, false, false, false, false, false, false, false, false, true, false, true, true, true, false] with
      | .ok f => decide (f.code = 0x10 ∧ f.sequence = 0x21 ∧ f.args = [])
      | .error _ => false) = true := by decide

/-! ### Single commands -/

/-- `idleState` with the sample region. -/
def mapped (s : State) : State := { s with regions := s.regions.set 0 (some sampleRegion) }

/-- R140 check 8: a journaled write in IDLE with NO_EPOCH_WRITE refuse. -/
theorem test_write_no_journal :
    (after (.writeRequest sampleWrite) (mapped idleState)).responses = [⟨3, .noJournal, []⟩] := by decide +kernel

/-- R45, R51, R53: the first journaled write of an epoch is captured: UNDO_READ of its granule, no answer yet. -/
theorem test_write_captured :
    let t := after (.writeRequest sampleWrite) (mapped activeState)
    t.issues.map (fun i => (i.kind, i.address, i.beats)) = [(.undoRead, 0x20000000, 4)] ∧ t.responses = [] ∧
      t.captures.map (fun c => (c.position, c.sequence, c.ordinal)) = [(3, 2, 1)] := by decide +kernel

/-- R141, R39: a read with nothing before it is issued at once. -/
theorem test_read_issued :
    (after (.readRequest sampleReadRequest) State.reset).issues.map (fun i => (i.tag, i.kind, i.address, i.beats))
      = [(0, .dataRead, 0x30000000, 2)] := by decide +kernel

/-- R185: NOP. -/
theorem test_nop : (after (.nop (bare 0x12)) State.reset).response = some (buildFrame 1 0x12 []) := by decide +kernel

/-- R185: READ_STATUS of an unmounted part, the first response in the run of transactions of chapter 11. -/
theorem test_read_status :
    (after (.readStatus (bare 0x10)) State.reset).response = some (buildFrame 1 0x10 [0, 0, 0, 0, 0, 0, 0, 0]) := by
  decide +kernel

/-- R67, R68: number 1, OPEN allocated at once; M is 1; the OPEN goes to slot 2. -/
theorem test_begin_epoch :
    let t := after (.beginEpoch (bare 0x20)) idleState
    t.response = some (buildFrame 1 0x20 [1, 0]) ∧ t.ring.map (fun g => (g.head, g.owed)) = some (3, 1) ∧
      t.issues.map (fun i => (i.kind, i.address)) = [(.slotWrite, 0x01000080)] := by decide +kernel

/-- R71 condition 6. -/
theorem test_commit_no_epoch :
    (after (.commitEpoch (bare 1)) idleState).response = some (buildFrame 4 1 [2]) := by decide +kernel

/-- R72, R74, R75: with nothing to capture or drain, the closer reaches MARKING in the event. -/
theorem test_commit_epoch :
    let t := after (.commitEpoch (bare 1)) activeState
    t.response = some (buildFrame 2 1 [1, 0, 0, 0]) ∧ t.closing.map (fun c => (c.stage, c.closeSlot)) =
      some (.marking, some ⟨3, 2⟩) ∧ t.controller = .idle := by decide +kernel

/-- R86, R90, R94: an epoch without UNDO slots goes to its ABANDON at once. -/
theorem test_abort_epoch :
    let t := after (.abortEpoch (bare 1)) activeState
    t.response = some (buildFrame 2 1 [1, 0, 0]) ∧ t.rollback.map (·.phase) = some .abandoning ∧
      t.controller = .rollingBack := by decide +kernel

/-- R106, R107: FORMAT reads both anchors, at JOURNAL_BASE and JOURNAL_BASE + 64. -/
theorem test_format_journal :
    let s := { idleState with controller := .unmounted, ring := none, geometry := none }
    (after (.formatJournal (with_ 1 [5])) s).issues.map (fun i => (i.tag, i.kind, i.address)) =
      [(0, .anchorRead, 0x01000000), (1, .anchorRead, 0x01000040)] := by decide +kernel

/-- R105: JOURNAL_SLOTS 0 is no valid geometry. -/
theorem test_recover_geometry :
    (after (.recoverJournal (bare 1)) State.reset).response = some (buildFrame 4 1 [7]) := by decide +kernel

/-- R187: transaction 2 of chapter 11. -/
theorem test_set_param :
    let t := after (.setParam (with_ 0x11 [4, 200])) State.reset
    t.response = some [0xCA011101, 200] ∧ t.settings.fullWaitUs = 200 := by decide +kernel

/-- R187 test 2: RETRY_LIMIT takes 2, 4, 16 and 64 only. -/
theorem test_set_param_value :
    (after (.setParam (with_ 1 [7, 3])) State.reset).response = some (buildFrame 6 1 []) := by decide +kernel

/-- R186: the default of DS_TIMEOUT_US. -/
theorem test_get_param :
    (after (.getParam (with_ 1 [9])) State.reset).response = some (buildFrame 1 1 [1000]) := by decide +kernel

/-- R132: exponent 32 needs base 0. -/
theorem test_write_region_base :
    (after (.writeRegion (with_ 1 [0, 0x80000000, 32, 1, 0, 0])) State.reset).response = some (buildFrame 6 1 []) := by
  decide +kernel

/-- R133: a read back reproduces a write. -/
theorem test_read_region :
    let t := after (.writeRegion (with_ 1 [0, 0x20000000, 12, 2, 1, 0x80FE])) State.reset
    t.regions.head? = some (some sampleRegion) ∧
      (after (.readRegion (with_ 2 [0])) t).response = some (buildFrame 1 2 [1, 0x20000000, 12, 2, 1, 0x80FE]) := by
  decide +kernel

/-- R165: READ_ALERTS returns the set and the mask. -/
theorem test_read_alerts :
    (after (.readAlerts (bare 1)) { State.reset with latched := 0x09 }).response = some (buildFrame 1 1 [9, 0]) := by
  decide +kernel

/-- R165: CLEAR_ALERTS clears what it names. -/
theorem test_clear_alerts :
    let t := after (.clearAlerts (with_ 1 [0x28])) { State.reset with latched := 0x09 }
    t.latched = 1 ∧ t.response = some (buildFrame 1 1 [1]) := by decide +kernel

/-- R168: DS_TIMEOUT, code 11, carries an address only; two incidents were dropped. -/
theorem test_pop_incident :
    let i : Incident := { Incident.bare .dsTimeout with address := some 0x40 }
    let t := after (.popIncident (bare 1)) { State.reset with incidents := [i], drops := 2 }
    t.incidents = [] ∧ t.drops = 0 ∧ t.response = some (buildFrame 1 1 [0x0002010B, 0x40, 0, 0, 0, 0]) := by
  decide +kernel

/-- R170: COMMIT COMMITTED AUTO of epoch 5. -/
theorem test_pop_completion :
    let c : Completion :=
      { op := .commit, trigger := .auto, epoch := some 5, outcome := .committed, countA := 2, countB := 1,
        discarded := 3 }
    (after (.popCompletion (bare 1)) { State.reset with completions := [c] }).response =
      some (buildFrame 1 1 [0x03030101, 5, 2, 1, 0]) := by decide +kernel

/-- R189, R191: with nothing queued a soft reset takes place in the event; the pending response is its DONE. -/
theorem test_reset_part_soft :
    let t := after (.resetPartSoft (with_ 9 [0])) idleState
    t.controller = .unmounted ∧ t.drain = none ∧ t.response = some (buildFrame 1 9 []) := by decide +kernel

/-- R43, R149: a forced reset quarantines the tag in flight and drops the entry without a response. -/
theorem test_reset_part_force :
    let s := { idleState with
      ops := [sampleOp .dataWrite (.entry 1)], writeQueue := [{ plainEntry with stage := .issued }],
      inFlight := [⟨0x20000000, 0, some 1⟩] }
    let t := after (.resetPartForce (with_ 9 [1])) s
    t.quarantined = [0] ∧ t.inFlight = [⟨0x20000000, 0, none⟩] ∧ t.writeQueue = [] ∧ t.responses = [] := by
  decide +kernel

/-- R182: less than one word has echo 0. -/
theorem test_frame_error : (after (.frameError [true]) State.reset).response = some (buildFrame 7 0 []) := by
  decide +kernel

/-- R184: a code the table lacks. -/
theorem test_unknown_command :
    (after (.unknownCommand 0x51 (bare 3)) State.reset).response = some (buildFrame 5 3 []) := by decide +kernel

/-- R191: the drained reset. -/
theorem test_soft_reset_takes_place :
    let t := after .softResetTakesPlace { idleState with drain := some 9 }
    t.controller = .unmounted ∧ t.drain = none ∧ t.response = some (buildFrame 1 9 []) := by decide +kernel

/-- R172, R175: nothing in flight: SAFE at once, and SAFE latched. -/
theorem test_pfw_assert :
    let t := after .pfwAssert State.reset
    t.hold = .safe ∧ t.latched = 0x10 ∧ t.safeLine = true := by decide +kernel

/-- R177: release of PFW; the latch stays (R163). -/
theorem test_pfw_release :
    let t := after .pfwRelease (after .pfwAssert State.reset)
    t.hold = .run ∧ t.latched = 0x10 ∧ t.safeLine = false := by decide +kernel

/-- R175: the quiet hold. -/
theorem test_enter_safe : (after .enterSafe { State.reset with pfw := true, hold := .holding }).hold = .safe := by
  decide +kernel

/-- R121, R149: the region table and the quarantine go. -/
theorem test_rst_assert :
    let t := after .rstAssert { mapped idleState with quarantined := [3] }
    t.regions = List.replicate 16 none ∧ t.quarantined = [] ∧ t.controller = .unmounted ∧ t.drstLine = true := by
  decide +kernel

/-- R102: the strap values 2 and 3. -/
theorem test_rst_release :
    let t := after (.rstRelease { jbase := 2, jsize := 3, autoRecover := false }) (after .rstAssert State.reset)
    t.settings.journalBase = 0x04000000 ∧ t.settings.journalSlots = 65536 ∧ t.rstHeld = false := by decide +kernel

/-- R103: an automatic recovery reads the anchors. -/
theorem test_rst_release_recovers :
    let t := after (.rstRelease { jbase := 2, jsize := 3, autoRecover := true }) (after .rstAssert State.reset)
    t.controller = .mounting ∧ t.issues.map (fun i => i.address) = [0x04000000, 0x04000040] := by decide +kernel

/-- A capture that waits for space in a full ring. -/
def waitingState : State :=
  { activeState with
    ring := some { openRing with occupancy := 4093 },
    writeQueue := [{ sampleEntry with stage := .spaceWait }], captureOrder := [sampleRecord],
    filter := [⟨0x20000000, none, some 0⟩], nextPlace := 1,
    spaceWaiter := some { entry := 0, tag := 3, initiator := 1, epoch := 1, timer := some 0 } }

/-- R13, R34: the wait ends with JOURNAL_FULL. -/
theorem test_space_wait_expiry :
    let t := after .spaceWaitExpiry waitingState
    t.responses = [⟨3, .journalFull, []⟩] ∧ t.writeQueue = [] ∧ t.filter = [] ∧
      t.active.map (·.failed) = some 1 := by decide +kernel

/-- R13: with free equal to M + 1 the waiter allocates. -/
theorem test_space_granted :
    let t := after .spaceGranted { waitingState with ring := some { openRing with occupancy := 4092 } }
    t.spaceWaiter = none ∧ t.captures.map (·.sequence) = [2] ∧ t.filter = [⟨0x20000000, some 2, none⟩] := by
  decide +kernel

/-- R80: the auto-commit is taken at once. -/
theorem test_auto_commit :
    let t := after .autoCommitExpiry { activeState with autoTimer := some 0 }
    t.controller = .idle ∧ t.latched = 0x20 ∧ t.closing.map (·.trigger) = some .auto := by decide +kernel

/-- R80: a closer under way holds the auto-commit pending. -/
theorem test_auto_commit_pending :
    let c : ClosingRecord := { record := { sampleEpoch with number := 9 }, trigger := .host, stage := .marking,
                               closeSlot := some ⟨2, 1⟩ }
    (after .autoCommitExpiry { activeState with autoTimer := some 0, closing := some c }).pendingAuto = true ∧
      (after .pendingAutoCommitTaken { activeState with pendingAuto := true }).controller = .idle := by decide +kernel

/-- An issued PLAIN POSTED write under tag 0. -/
def flyingWrite : State :=
  { State.reset with
    writeQueue := [{ plainEntry with stage := .issued }], inFlight := [⟨0x20000000, 0, some 1⟩],
    ops := [sampleOp .dataWrite (.entry 1)], nextReady := 1, nextPlace := 2 }

/-- R155, R33: a timeout quarantines the tag, logs DS_TIMEOUT and then POSTED_WRITE_FAILED, and keeps the in-flight
record. -/
theorem test_ds_timeout :
    let t := after (.dsTimeout 0) flyingWrite
    t.quarantined = [0] ∧ t.incidents.map (·.kind) = [.dsTimeout, .postedWriteFailed] ∧
      t.inFlight = [⟨0x20000000, 0, none⟩] ∧ t.writeQueue = [] := by decide +kernel

/-- R156: the late answer frees the tag and the record. -/
theorem test_late_answer :
    let t := after (.lateAnswer 0 .busy) (after (.dsTimeout 0) flyingWrite)
    t.quarantined = [] ∧ t.inFlight = [] := by decide +kernel

/-- R151, R152: BUSY is reissued in the event under the same tag. -/
theorem test_busy_answer :
    let t := after (.busyAnswer 0) flyingWrite
    t.ops.map (fun o => (o.retries, o.phase)) = [(1, .inFlight 0 1000)] ∧ t.issues.map (·.tag) = [0] := by
  decide +kernel

/-- R154: at the limit the write fails finally. -/
theorem test_busy_exhausted :
    let t := after (.busyAnswer 0) { flyingWrite with ops := [{ sampleOp .dataWrite (.entry 1) with retries := 4 }] }
    t.ops = [] ∧ t.incidents.map (·.kind) = [.postedWriteFailed] := by decide +kernel

/-- R152: a HELD record is reissued when the hold is lifted. -/
theorem test_reissue :
    let t := after (.reissue 0) { flyingWrite with ops := [{ sampleOp .dataWrite (.entry 1) with phase := .held 0 }] }
    t.issues.map (·.address) = [0x20000000] := by decide +kernel

/-- R145: the slot write goes before the data read that asked earlier. -/
theorem test_tag_grant :
    let o := fun (r : Nat) (k : OpKind) (w : Requester) => { sampleOp k w with ready := r, phase := .waiting }
    let s := { State.reset with
      ops := [o 0 .dataRead (.read 2), o 1 .slotWrite (.openSlot 1 1)],
      quarantined := (List.finRange 48).filter (fun t => t != 0) }
    (after .tagGrant s).issues.map (fun i => (i.tag, i.kind)) = [(0, .slotWrite)] := by decide +kernel

/-- R27, R29: the READY entry is issued at its address. -/
theorem test_data_write_issue :
    (after .dataWriteIssue { State.reset with writeQueue := [plainEntry] }).issues.map (fun i => (i.kind, i.address)) =
      [(.dataWrite, 0x20000008)] := by decide +kernel

/-- R27: a second write of a granule in flight waits. -/
theorem test_data_write_waits :
    let s := { flyingWrite with writeQueue := flyingWrite.writeQueue ++ [{ plainEntry with place := 2 }] }
    after .dataWriteIssue s = s := by decide +kernel

/-- R38: the read is issued, but not while an earlier write of its granule remains. -/
theorem test_data_read_issue :
    let s := { State.reset with readTracker := [sampleRead] }
    (after .dataReadIssue s).issues.map (·.kind) = [.dataRead] ∧
      (let w := { s with writeQueue := [{ sampleEntry with granule := 0x30000000 }] }
       after .dataReadIssue w = w) := by decide +kernel

/-- R31: a WAITED write is answered OK. -/
theorem test_data_write_answer :
    let s := { flyingWrite with writeQueue := [{ plainEntry with stage := .issued, ack := .waited }] }
    (after (.dataWriteAnswer 0 .ok) s).responses = [⟨4, .ok, []⟩] := by decide +kernel

/-- R39, R147: the beats of an OK, and beats of 0xFF for an OK of another length. -/
theorem test_data_read_answer :
    let s := { State.reset with
      readTracker := [{ sampleRead with stage := .issued }],
      ops := [{ sampleOp .dataRead (.read 2) with beats := 2 }] }
    (after (.dataReadAnswer 0 .ok [1, 2]) s).responses = [⟨5, .ok, [1, 2]⟩] ∧
      (after (.dataReadAnswer 0 .ok [1]) s).responses =
        [⟨5, .memError, [0xFFFFFFFFFFFFFFFF, 0xFFFFFFFFFFFFFFFF]⟩] := by decide +kernel

/-- A capture of `sampleEntry` in progress under tag 0. -/
def capturing (kind : OpKind) (step : CaptureStep) (stage : Stage) : State :=
  { activeState with
    ring := some { openRing with head := 4, occupancy := 2, nextSeq := 3, unacked := [2] },
    active := some { sampleEpoch with undoCount := 1 },
    writeQueue := [{ sampleEntry with stage := stage, slotSeq := some 2 }], filter := [⟨0x20000000, some 2, none⟩],
    captures := [{ sampleCapture with step := step, oldBytes := if step = .writing then some [1, 2, 3, 4] else none }],
    ops := [{ sampleOp kind (.capture 0) with beats := if kind = .undoRead then 4 else 8 }], nextReady := 1,
    nextPlace := 1 }

/-- R51: the head of the capture order starts. -/
theorem test_capture_start :
    let s := { activeState with
      writeQueue := [sampleEntry], captureOrder := [sampleRecord], filter := [⟨0x20000000, none, some 0⟩] }
    let t := after .captureStart s
    t.captureOrder = [] ∧ t.writeQueue.map (·.stage) = [.undoRead] ∧ t.active.map (·.undoCount) = some 1 := by
  decide +kernel

/-- R53, R54: the old bytes are kept and go to the slot at position 3. -/
theorem test_undo_read_answer :
    let t := after (.undoReadAnswer 0 .ok [1, 2, 3, 4]) (capturing .undoRead .reading .undoRead)
    t.captures.map (·.oldBytes) = [some [1, 2, 3, 4]] ∧
      t.issues.map (fun i => (i.kind, i.address)) = [(.slotWrite, 0x010000C0)] := by decide +kernel

/-- R54, R14, R28: the slot is durable, and the data write is issued. -/
theorem test_undo_slot_write_answer :
    let t := after (.undoSlotWriteAnswer 0 .ok) (capturing .slotWrite .writing .undoWrite)
    t.ring.map (·.frontier) = some (some 2) ∧ t.issues.map (fun i => (i.kind, i.address)) =
      [(.dataWrite, 0x20000008)] := by decide +kernel

/-- R55, R81: a failed capture takes the controller to FAULTED. -/
theorem test_undo_read_fails :
    let t := after (.undoReadAnswer 0 .fail []) (capturing .undoRead .reading .undoRead)
    t.controller = .faulted ∧ t.responses = [⟨3, .memError, []⟩] ∧ t.incidents.map (·.kind) = [.undoFailed] := by
  decide +kernel

/-- R69: the OPEN is durable. -/
theorem test_open_slot_write_answer :
    let s := { activeState with
      ring := some { openRing with frontier := none, unacked := [1] },
      openWrites := [{ epoch := 1, origin := .host, slot := ⟨2, 1⟩ }], ops := [sampleOp .slotWrite (.openSlot 1 1)] }
    let t := after (.openSlotWriteAnswer 0 .ok) s
    t.ring.map (·.frontier) = some (some 1) ∧ t.openWrites = [] ∧
      (after (.openSlotWriteAnswer 0 .fail) s).controller = .faulted := by decide +kernel

/-- The closer of epoch 1 at a stage. -/
def closer (stage : CloserStage) (slot : Option SlotRef) : State :=
  { activeState with
    controller := .idle, active := none,
    closing := some { record := sampleEpoch, trigger := .host, stage := stage, closeSlot := slot },
    ring := some (if slot.isSome then { openRing with head := 4, occupancy := 2, nextSeq := 3, owed := 0, unacked := [2] }
      else openRing) }

/-- R74: the CLOSE is allocated and M falls to 0. -/
theorem test_closer_capturing_done :
    let t := after .closerCapturingDone (closer .capturing none)
    t.closing.map (·.closeSlot) = some (some ⟨3, 2⟩) ∧ t.ring.map (·.owed) = some 0 := by decide +kernel

/-- R75: the CLOSE goes to its slot. -/
theorem test_close_write_issue :
    (after .closeWriteIssue (closer .draining (some ⟨3, 2⟩))).issues.map (·.address) = [0x010000C0] := by decide +kernel

/-- R76, R17: the commit point, and the closer's anchor write to the copy not in force. -/
theorem test_close_slot_write_answer :
    let s := { closer .marking (some ⟨3, 2⟩) with ops := [sampleOp .slotWrite .closer] }
    let t := after (.closeSlotWriteAnswer 0 .ok) s
    t.lastCommitted = some 1 ∧ t.completions.map (·.outcome) = [.committed] ∧
      t.issues.map (fun i => (i.kind, i.address)) = [(.anchorWrite, 0x01000040)] := by decide +kernel

/-- R17: a rollback's claim waits for the closer; the closer's goes. -/
theorem test_anchor_claim_issue :
    let mine : Claim := { claimant := .rollback, tail := 4, tailSeq := 3, numbers := none, target := none }
    let s := { closer .marking (some ⟨3, 2⟩) with ops := [sampleOp .slotWrite .closer], claims := [mine] }
    after .anchorClaimIssue s = s ∧
      (after .anchorClaimIssue { s with claims := [{ mine with claimant := .closer }] }).issues.map (·.address) =
        [0x01000040] := by decide +kernel

/-- R144, R153, R66: an anchor that waits for a tag while the next epoch number goes from 2 to 3 is sent with 2. -/
theorem test_anchor_contents_fixed :
    let claim : Claim := { claimant := .closer, tail := 4, tailSeq := 3, numbers := none, target := none }
    let s := { closer .reclaiming (some ⟨3, 2⟩) with claims := [claim], quarantined := List.finRange 48 }
    let t := after .tagGrant { after .anchorClaimIssue s with nextEpoch := some 3, quarantined := [] }
    t.issues.map (·.data) = [beatsOfWords (anchorSlot 7 3 4096 4 3 2 0)] := by decide +kernel

/-- The anchor write of a claimant in flight under tag 0. -/
def anchorInFlight (who : Claimant) (s : State) : State :=
  { s with
    ops := [sampleOp .anchorWrite (.anchor { claimant := who, copy := .b, generation := 3, tail := 4, tailSeq := 3,
                                             numbers := if who = .mount then some (2, 1) else none })],
    claims := [{ claimant := who, tail := 4, tailSeq := 3, numbers := none, target := none }] }

/-- R19, R77: the tail moves and the closer ends. -/
theorem test_anchor_write_answer :
    let t := after (.anchorWriteAnswer 0 .ok) (anchorInFlight .closer (closer .reclaiming (some ⟨3, 2⟩)))
    t.closing = none ∧ t.claims = [] ∧
      t.ring.map (fun g => (g.tail, g.tailSeq, g.occupancy, g.inForce)) = some (4, 3, 0, some (.b, 3)) := by
  decide +kernel

/-- A rollback of epoch 1 with one UNDO slot at position 3. -/
def rolling (phase : RollbackPhase) (step : Option ReplayStep) : State :=
  { activeState with
    controller := .rollingBack, active := none,
    ring := some { openRing with head := 4, occupancy := 2, nextSeq := 3, frontier := some 2 },
    rollback := some
      { epoch := 1, undoCount := 1, abortPoint := 1, phase := phase,
        cursor := if phase = .replaying then some ⟨3, 2, 1⟩ else none, step := step,
        contents := if step = some .waiting ∨ step = some .restoring then some undoWords else none, restored := 0,
        abandonSlot := if phase = .abandoning then some ⟨4, 3⟩ else none } }
where
  /-- The UNDO slot of the rollback. -/
  undoWords : List Word := ringSlot .undo 7 2 1 0x20000000 1 0 [1, 2, 3, 4, 5, 6, 7, 8]

/-- R90, R91: replay begins with the read of the newest slot. -/
theorem test_rollback_settled :
    (after .rollbackSettled (rolling .settling none)).issues.map (fun i => (i.kind, i.address)) =
      [(.slotRead, 0x010000C0)] := by decide +kernel

/-- R93: the restore waits for an earlier write of the granule, and then goes to the granule. -/
theorem test_rollback_restore_issue :
    let s := rolling .replaying (some .waiting)
    (after .rollbackRestoreIssue s).issues.map (fun i => (i.kind, i.address, i.beats)) =
        [(.restoreWrite, 0x20000000, 4)] ∧
      (let w := { s with writeQueue := [{ plainEntry with place := 0, stage := .issued }] }
       after .rollbackRestoreIssue w = w) := by decide +kernel

/-- R92, R93: a good slot is restored in the event; a slot of another epoch takes the part to FAULTED. -/
theorem test_rollback_slot_read_answer :
    let s := { rolling .replaying (some .reading) with ops := [{ sampleOp .slotRead .rollback with beats := 8 }] }
    (after (.rollbackSlotReadAnswer 0 .ok (beatsOfWords rolling.undoWords)) s).issues.map (·.kind) =
        [.restoreWrite] ∧
      (after (.rollbackSlotReadAnswer 0 .ok (beatsOfWords (ringSlot .undo 7 2 9 0x20000000 1 0 zeroPayload))) s).controller
        = .faulted := by decide +kernel

/-- R94, R95: after ordinal 1 the ABANDON is allocated and written. -/
theorem test_rollback_restore_answer :
    let s := { rolling .replaying (some .restoring) with ops := [{ sampleOp .restoreWrite .rollback with beats := 4 }] }
    let t := after (.rollbackRestoreAnswer 0 .ok) s
    t.rollback.map (fun r => (r.restored, r.abandonSlot)) = some (1, some ⟨4, 3⟩) ∧
      t.issues.map (·.address) = [0x01000100] := by decide +kernel

/-- R95: the rollback's anchor is claimed and issued. -/
theorem test_rollback_abandon_answer :
    let s := { rolling .abandoning none with
      ring := some { openRing with head := 5, occupancy := 3, nextSeq := 4, frontier := some 2, unacked := [3] },
      ops := [sampleOp .slotWrite .rollback] }
    let t := after (.rollbackAbandonAnswer 0 .ok) s
    t.rollback.map (·.phase) = some .anchoring ∧ t.issues.map (·.kind) = [.anchorWrite] ∧
      t.claims.map (fun c => (c.tail, c.tailSeq)) = [(5, 4)] := by decide +kernel

/-- A mount of the part under way. -/
def mounting (kind : MountKind) (phase : MountPhase) : State :=
  { idleState with
    controller := .mounting, ring := none, nextEpoch := none, lastCommitted := none,
    mount := some { freshMount kind .host 5 0 with phase := phase } }

/-- R108: no valid anchor: the seed is the instance, and anchor B is claimed and written. -/
theorem test_anchor_read_answer_format :
    let s := mounting .format .readingAnchors
    let t := after (.anchorReadAnswer 0 .ok (List.replicate 8 0)) { s with
      mount := some { freshMount .format .host 5 0 with findingB := .failed },
      ops := [{ sampleOp .anchorRead (.mountAnchor .a) with beats := 8 }] }
    t.ring.map (fun g => (g.journal, g.head, g.nextSeq)) = some (5, 2, 1) ∧
      t.issues.map (fun i => (i.kind, i.address)) = [(.anchorWrite, 0x01000040)] := by decide +kernel

/-- R110 row 5: the later generation is chosen, and the scan begins at its tail. -/
theorem test_anchor_read_answer_recover :
    let t := after (.anchorReadAnswer 0 .ok (beatsOfWords (anchorSlot 7 4 4096 10 9 3 1)))
      { mounting .recover .readingAnchors with
        mount := some { freshMount .recover .host 0 0 with findingB := .read (anchorSlot 7 3 4096 2 1 1 0) },
        ops := [{ sampleOp .anchorRead (.mountAnchor .a) with beats := 8 }] }
    t.mount.map (fun m => (m.phase, m.scanCursor)) = some (.scanning, some ⟨10, 9⟩) ∧
      t.issues.map (·.address) = [0x01000280] := by decide +kernel

/-- R109: anchor A after anchor B. -/
theorem test_format_anchor_write_answer :
    let w : AnchorWrite := { claimant := .mount, copy := .b, generation := 1, tail := 2, tailSeq := 1, numbers := some (1, 0) }
    let s := { mounting .format .writingB with
      ring := some (setUpRing 5 none 2 1), ops := [sampleOp .anchorWrite (.anchor w)], claims := [formatClaim .b 1] }
    let t := after (.formatAnchorWriteAnswer 0 .ok) s
    t.ring.map (·.inForce) = some (some (.b, 1)) ∧ t.issues.map (·.address) = [0x01000000] := by decide +kernel

/-- A scan at position 10, sequence 9. -/
def scanning : State :=
  { mounting .recover .scanning with
    mount := some { freshMount .recover .host 0 0 with
      phase := .scanning, chosen := some (chosenOf .a (anchorSlot 7 4 4096 10 9 3 1)), scanCursor := some ⟨10, 9⟩ },
    ops := [{ sampleOp .slotRead .mount with beats := 8 }] }

/-- R111, R112: an OPEN continues the empty shape, and the next slot is read. -/
theorem test_scan_slot_read_answer :
    let t := after (.scanSlotReadAnswer 0 .ok (beatsOfWords (markerSlot .openSlot 7 9 3 0))) scanning
    t.mount.map (fun m => (m.scanned, m.shape)) = some (1, .firstOpen 3 0) ∧
      t.issues.map (·.address) = [0x010002C0] := by decide +kernel

/-- R113, R116: an empty run: the ring skips by C = 4094, and the anchor not chosen is written. -/
theorem test_scan_stops :
    let t := after (.scanSlotReadAnswer 0 .ok (List.replicate 8 0)) scanning
    t.ring.map (fun g => (g.head, g.nextSeq)) = some (10, 4103) ∧ t.issues.map (·.address) = [0x01000040] := by
  decide +kernel

/-- A recovery's replay of epoch 3 with one UNDO slot at position 11, sequence 10. -/
def recovering (step : ReplayStep) : State :=
  { mounting .recover .replaying with
    ring := some { setUpRing 7 (some (.a, 4)) 12 4105 with owed := 1 },
    mount := some { freshMount .recover .host 0 0 with
      phase := .replaying, chosen := some (chosenOf .a (anchorSlot 7 4 4096 10 9 3 1)), openEpoch := some (3, 1),
      cursor := some ⟨11, 10, 1⟩, step := some step, scanned := 2, highest := some 3,
      contents := if step = .reading then none else some undoWords } }
where
  /-- The UNDO slot of the open epoch. -/
  undoWords : List Word := ringSlot .undo 7 10 3 0x20000000 1 0 [1, 2, 3, 4, 5, 6, 7, 8]

/-- R114: a verified slot is restored. -/
theorem test_mount_replay_read_answer :
    let s := { recovering .reading with ops := [{ sampleOp .slotRead .mount with beats := 8 }] }
    (after (.mountReplayReadAnswer 0 .ok (beatsOfWords recovering.undoWords)) s).issues.map (fun i => (i.kind, i.address))
      = [(.restoreWrite, 0x20000000)] := by decide +kernel

/-- R114: the restore of the recovery. -/
theorem test_mount_restore_issue :
    (after .mountRestoreIssue (recovering .waiting)).issues.map (·.kind) = [.restoreWrite] := by decide +kernel

/-- R114, R115: after ordinal 1 the ABANDON takes the slot at the scan head. -/
theorem test_mount_restore_answer :
    let s := { recovering .restoring with ops := [{ sampleOp .restoreWrite .mount with beats := 4 }] }
    let t := after (.mountRestoreAnswer 0 .ok) s
    t.mount.map (fun m => (m.restored, m.abandonSlot)) = some (1, some ⟨12, 4105⟩) ∧
      t.issues.map (·.address) = [0x01000300] := by decide +kernel

/-- A recovery's ABANDON in flight. -/
def abandoning : State :=
  { recovering .reading with
    ring := some { setUpRing 7 (some (.a, 4)) 12 4105 with head := 13, occupancy := 1, nextSeq := 4106, unacked := [4105] },
    mount := (recovering .reading).mount.map (fun m =>
      { m with phase := .abandoning, cursor := none, step := none, restored := 1, abandonSlot := some ⟨12, 4105⟩ }),
    ops := [sampleOp .slotWrite .mount] }

/-- R115, R116: the claim has the later epoch number and the tail after the ABANDON. -/
theorem test_mount_abandon_answer :
    let t := after (.mountAbandonAnswer 0 .ok) abandoning
    t.claims.map (fun c => (c.tail, c.tailSeq, c.numbers)) = [(13, 4106, some (4, 1))] ∧
      (after (.mountAbandonAnswer 0 .fail) abandoning).controller = .unmounted := by decide +kernel

/-- R83: a waiting mount starts out of FAULTED. -/
theorem test_mount_from_faulted :
    (after .mountFromFaulted { idleState with controller := .faulted, mountRequest := some ⟨.recover, 0⟩ }).controller =
      .mounting := by decide +kernel

/-- R159: an orphaned CLOSE that fails logs MARKER_FAILED. -/
theorem test_orphan_operation_answer :
    let s := { idleState with controller := .faulted, ops := [sampleOp .slotWrite (.orphan (.slot 1 2))] }
    (after (.orphanOperationAnswer 0 .fail []) s).incidents.map (fun i => (i.kind, i.epoch, i.sequence)) =
      [(.markerFailed, some 1, some 2)] := by decide +kernel

/-- R179: the pending response is the frame shifted out. -/
theorem test_mcs_asserted :
    (after .mcsAsserted (after (.nop (bare 0x12)) State.reset)).transaction =
      some (openTransaction (buildFrame 1 0x12 [])) := by decide +kernel

/-- R179: an MCK cycle takes the first bit of MDI and shifts out a bit of the frame; a frame of one word has 32. -/
theorem test_mck_cycle :
    (match step { after .mcsAsserted State.reset with mdi := [true, false] } with
      | .next t => (t.transaction.map (fun r => (r.received, r.shifted)), t.mdi, t.timebase)
      | _ => (none, [], 1)) = (some ([true], 1), [false], 0) ∧
      ((List.replicate 33 true).foldl Transaction.cycle (openTransaction emptyFrame)).shifted = 32 := by decide +kernel

/-- R179: MDO carries the empty frame, bit 0 of its word first, and zero bits after it. -/
theorem test_mdo_bits :
    let t := openTransaction emptyFrame
    [0, 23, 24, 26, 29, 31, 32].map t.mdoBit = [false, false, true, true, true, true, false] := by decide +kernel

/-! ### Witnesses: states and operands that meet the hypotheses of the statements, clause by clause -/

/-- A hold under way in a mode. -/
def holding (mode : HoldMode) (s : State) : State := { s with pfw := true, hold := .holding, modeInForce := mode }

/-- The part with its controller in a state. -/
def inState (c : Controller) : State := { idleState with controller := c }

/-- The part with RST# held. -/
def heldState : State := { State.reset with rstHeld := true }

/-- A closing record in CAPTURING. -/
def capturingCloser : ClosingRecord :=
  { record := sampleEpoch, trigger := .host, stage := .capturing, closeSlot := none }

/-- An ACTIVE epoch whose OPEN is deferred behind a closer in CAPTURING. -/
def deferredState : State :=
  { activeState with
    active := some { sampleEpoch with number := 2, openSlot := none }, closing := some capturingCloser,
    ring := some { openRing with owed := 3 } }

/-- A completion record. -/
def sampleCompletion : Completion :=
  { op := .commit, trigger := .auto, epoch := some 5, outcome := .committed, countA := 2, countB := 1, discarded := 255 }

/-- A part whose lists are full. -/
def fullState : State :=
  { activeState with
    incidents := List.replicate 16 (Incident.bare .dsTimeout), drops := 255,
    completions := List.replicate 4 sampleCompletion,
    inFlight := (List.range 8).map (fun k => ⟨BitVec.ofNat 32 (32 * k), 0, none⟩),
    filter := [⟨0x20000000, some 1, none⟩], quarantined := [0, 47] }

/-- A space wait at its end; the auto-commit timer at its end with no waiter; a record with 0 left after one with 1; a bit
on MDI in a transaction; and nothing of these. -/
theorem witness_EmptyQueueLetsTimePass :
    (waitingState.pending = [] ∧ waitingState.spaceWaiter.bind (·.timer) = some 0 ∧
      sampleRecord ∈ waitingState.captureOrder ∧ waitingState.spaceWaiter.map (·.entry) = some sampleRecord.entry) ∧
      (activeState.pending = [] ∧ activeState.spaceWaiter = none ∧ activeState.autoTimer ≠ some 0 ∧
        activeState.ops = [] ∧ ({ activeState with autoTimer := some 0 } : State).autoTimer = some 0) ∧
      (let first := { sampleOp .dataRead (.read 2) with phase := .inFlight 1 1 }
       let due := { sampleOp .dataRead (.read 2) with phase := .inFlight 0 0 }
       ({ activeState with ops := [first, due] } : State).ops = [first] ++ due :: [] ∧ due.phase = .inFlight 0 0 ∧
         ∀ u, first.phase ≠ .inFlight u 0) ∧
      (let s := { after .mcsAsserted State.reset with mdi := [true] }
       s.pending = [] ∧ s.spaceWaiter = none ∧ s.autoTimer ≠ some 0 ∧ s.ops = [] ∧ s.mdi = true :: [] ∧
         s.transaction = some (openTransaction emptyFrame)) ∧
      State.reset.transaction = none ∧ State.reset.mdi = [] := by decide +kernel

theorem witness_OutputsOnlyGrow :
    ∃ t, exec (.writeRequest sampleWrite) State.reset = .next t ∧ t.responses ≠ [] ∧ t.issues ≠ [] :=
  ⟨_, rfl, by decide +kernel, by decide +kernel⟩

theorem witness_SettingsRegionsAndLinesChangeOnlyByTheirCommands :
    (Instr.setParam (with_ 0 [4, 200])).wf = true ∧ ∃ t, exec (.setParam (with_ 0 [4, 200])) State.reset = .next t :=
  ⟨by decide, _, rfl⟩

theorem witness_SettingsRegionsAndLinesChangeOnlyByTheirCommands_others :
    [Instr.nop (bare 0), .rstRelease resetStraps, .writeRegion (with_ 0 [0]), .rstAssert, .pfwAssert,
      .pfwRelease].all (·.wf) = true ∧ ∃ t, exec (.nop (bare 0)) State.reset = .next t := ⟨by decide, _, rfl⟩

/-- Nothing can be done at reset: the run is empty, and shorter than the bound. -/
theorem witness_EventsEndByTheOwnSteps_bound : ([] : List State).length < Config.settleFuel := by decide

theorem witness_EventsEndByTheOwnSteps : ∀ f ∈ internalSteps, f State.reset = none := by
  intro f h
  simp only [internalSteps, List.mem_cons, List.not_mem_nil, or_false] at h
  rcases h with h | h | h | h | h | h | h | h | h | h | h | h | h | h | h | h | h | h | h | h <;> subst h <;> rfl

theorem witness_StepsKeepCapacities : fullState.WithinCapacity ∧ ∃ t, step fullState = .next t :=
  ⟨⟨by decide, by decide, by decide +kernel, by decide, by decide, by decide, by decide, by decide, by decide,
    by decide⟩, _, rfl⟩

theorem witness_StepsKeepConfiguration : (mapped idleState).Configured ∧ ∃ t, step (mapped idleState) = .next t := by
  refine ⟨⟨by decide, fun r h => ?_⟩, _, rfl⟩
  have : r = sampleRegion := by simpa [mapped, idleState, State.reset] using h
  subst this; decide

theorem witness_StepsKeepGranuleFilter : fullState.FilterSound ∧ ∃ t, step fullState = .next t :=
  ⟨⟨by decide, by decide, fun h => nomatch h⟩, _, rfl⟩

theorem witness_StepsKeepRingSequences : activeState.RingOrdered ∧ ∃ t, step activeState = .next t := by
  refine ⟨fun r h => ?_, _, rfl⟩
  obtain rfl : openRing = r := Option.some.inj h
  decide

theorem witness_StepsKeepControllerRecords : activeState.ControllerSound ∧ ∃ t, step activeState = .next t :=
  ⟨⟨by decide, by decide, by decide, by decide, by decide, by decide, by decide, by decide⟩, _, rfl⟩

theorem witness_StepsKeepSafePromise :
    ({ activeState with pfw := true, hold := .safe } : State).SafeSound ∧
      ∃ t, step { activeState with pfw := true, hold := .safe } = .next t :=
  ⟨⟨by decide, by decide⟩, _, rfl⟩

theorem witness_StepsKeepTagsDistinct : (capturing .undoRead .reading .undoRead).TagsSound ∧
    ∃ t, step (capturing .undoRead .reading .undoRead) = .next t :=
  ⟨⟨by decide, by decide, by decide⟩, _, rfl⟩

theorem witness_WrittenSlotsHaveTheirLayout :
    zeroPayload.length = 8 ∧ (markerSlot .close 7 2 1 0).length % 2 = 0 ∧ ([] : List Word).length % 2 = 0 := by decide

theorem witness_RequestFramesReadBack :
    ([1, 2, 3, 4, 5, 6] : List Word).length ≤ 6 ∧ (List.replicate 64 true).length % 32 = 0 ∧
      ([] : List Word).length ≤ 6 ∧ ([] : List Bool).length % 32 = 0 := by decide

theorem witness_RingAllocatesAtHeadAndTracksTheFrontier : activeState.ring = some openRing := rfl

theorem witness_NopAndReadStatusAnswer : State.reset.rstHeld = false ∧ (bare 1).args = [] ∧ (with_ 1 [0]).args ≠ [] := by
  decide

/-- Values at the ends of the ranges of R186: 0 for JOURNAL_SLOTS, 1023 not; JOURNAL_BASE 0xFFFF0000; 3 for RETRY_LIMIT
not; 4095 for DS_TIMEOUT_US, 4096 not; 63 for ALERT_MASK, 64 not; ids 0 and 13 not. -/
theorem witness_SetParamStoresAcceptableValues :
    State.reset.rstHeld = false ∧ State.reset.controller = .unmounted ∧ idleState.rstHeld = false ∧
      idleState.controller ≠ .unmounted ∧
      ([(2, 0), (2, 262144), (1, 0xFFFF0000), (9, 4095), (12, 63), (7, 64)] : List (Nat × Word)).all
        (fun p => (State.reset.settings.put p.1 p.2).isSome) = true ∧
      ([(2, 1023), (7, 3), (9, 4096), (9, 0), (12, 64), (0, 0), (13, 0)] : List (Nat × Word)).all
        (fun p => (State.reset.settings.put p.1 p.2).isNone) = true := by decide

theorem witness_GetParamReturnsTheStoredValue :
    State.reset.rstHeld = false ∧ ([] : List Word).length ≠ 1 ∧ (1#32).toNat = 1 ∧ (12#32).toNat = 12 ∧
      (13#32).toNat = 13 := by decide

theorem witness_RegionsAreWrittenAndRead :
    State.reset.rstHeld = false ∧ 15 < (16#32).toNat ∧ (15#32).toNat ≤ 15 ∧
      (12 ≤ (32#32).toNat ∧ (32#32).toNat ≤ 32 ∧ (0#32).toNat % 2 ^ (32#32).toNat = 0 ∧ (0xFFFF#32).toNat < 65536) ∧
      ¬(12 ≤ (11#32).toNat) ∧ ([] : List Word).length ≠ 1 ∧ ([] : List Word).length ≠ 6 := by decide

theorem witness_AlertsAreReadAndCleared :
    State.reset.rstHeld = false ∧ 64 ≤ (64#32).toNat ∧ (63#32).toNat < 64 ∧
      ({ State.reset with latched := 0x20, settings := { State.reset.settings with alertMask := 0x3F } } : State).alertLine
        = true := by decide

theorem witness_IncidentsAreLoggedAndPopped :
    ({ State.reset with incidents := List.replicate 15 (Incident.bare .dsTimeout) } : State).incidents.length < 16 ∧
      16 ≤ fullState.incidents.length ∧ State.reset.incidents = [] ∧ State.reset.rstHeld = false ∧
      fullState.incidents = Incident.bare .dsTimeout :: List.replicate 15 (Incident.bare .dsTimeout) ∧
      fullState.rstHeld = false := by decide

theorem witness_CompletionsAreListedAndPopped :
    ({ State.reset with completions := List.replicate 3 sampleCompletion } : State).completions.length < 4 ∧
      fullState.completions = sampleCompletion :: List.replicate 3 sampleCompletion ∧
      (List.replicate 3 sampleCompletion).length = 3 ∧ State.reset.completions = [] ∧ State.reset.rstHeld = false ∧
      fullState.rstHeld = false ∧ ([0] : List Word) ≠ [] := by decide

/-- One state for each row of R67; free is M + 1 in the sixth, and M + 2 in the last two, with the OPEN allocated and
deferred. -/
theorem witness_BeginEpochOpensAnEpoch :
    State.reset.rstHeld = false ∧ (inState .faulted).rstHeld = false ∧ activeState.controller = .active ∧
      ({ idleState with drain := some 9 } : State).drain ≠ none ∧ (holding .drain idleState).hold ≠ .run ∧
      (let g := { sampleRing with occupancy := 4093 }
       let s := { idleState with ring := some g }
       s.ring = some g ∧ s.freeOf g < g.owed + 2) ∧
      (let g := { sampleRing with occupancy := 4092 }
       let s := { idleState with ring := some g }
       s.ring = some g ∧ s.freeOf g = g.owed + 2 ∧ s.nextEpoch = some 1 ∧ s.closing = none) ∧
      (let s := { idleState with closing := some capturingCloser, nextEpoch := some 0xFFFFFFFF }
       s.ring = some sampleRing ∧ s.nextEpoch = some 0xFFFFFFFF ∧ capturingCloser.stage = .capturing) := by decide

/-- One state for each row of R71, and an acceptance with and without a space waiter of the epoch. -/
theorem witness_CommitEpochStartsTheCloser :
    State.reset.rstHeld = false ∧ (inState .faulted).rstHeld = false ∧
      ({ activeState with drain := some 9 } : State).drain ≠ none ∧
      ((holding .freeze activeState).hold ≠ .run ∧ (holding .freeze activeState).modeInForce = .freeze) ∧
      deferredState.closing ≠ none ∧ idleState.controller = .idle ∧ (inState .rollingBack).controller = .rollingBack ∧
      (activeState.active = some sampleEpoch ∧ activeState.spaceWaiter = none ∧ activeState.closing = none) ∧
      (waitingState.active = some sampleEpoch ∧ waitingState.waitingRecord = some sampleRecord ∧
        waitingState.spaceWaiter = some ⟨0, 3, 1, 1, some 0⟩ ∧ waitingState.closing = none) := by decide

theorem witness_AbortEpochEndsTheActiveEpoch :
    State.reset.rstHeld = false ∧ (inState .faulted).rstHeld = false ∧
      ({ activeState with drain := some 9 } : State).drain ≠ none ∧ (holding .drain activeState).hold ≠ .run ∧
      (inState .rollingBack).controller = .rollingBack ∧ idleState.controller = .idle ∧
      (activeState.active = some sampleEpoch ∧ sampleEpoch.openSlot = some ⟨2, 1⟩) ∧
      deferredState.active = some { sampleEpoch with number := 2, openSlot := none } := by decide

theorem witness_EntriesLeaveWithdrawnOrFailed :
    ({ State.reset with incidents := List.replicate 15 (Incident.bare .dsTimeout) } : State).incidents.length < 16 := by
  decide

/-- One state for each row of R105; the geometry at the top of the address space, and one slot too many. -/
theorem witness_FormatAndRecoverStartAMount :
    (inState .mounting).rstHeld = false ∧
      (({ inState .faulted with mountRequest := some ⟨.format, 1⟩ } : State).mountRequest ≠ none) ∧
      idleState.controller = .idle ∧ ({ State.reset with drain := some 9 } : State).drain ≠ none ∧
      (holding .drain State.reset).hold ≠ .run ∧ State.reset.settings.journalSlots.toNat = 0 ∧
      ((0xFFFC0000#32).toNat + 64 * 4096 = 2 ^ 32 ∧ (0xFFFC0000#32).toNat % 65536 = 0) ∧
      (inState .faulted).mountRequest = none ∧ (inState .unmounted).settings.journalSlots.toNat = 4096 := by decide

theorem witness_ResetPartClearsTheBlocks :
    State.reset.rstHeld = false ∧ deferredState.closing ≠ none ∧ (inState .mounting).controller = .mounting ∧
      1 < (2#32).toNat ∧
      (({ idleState with drain := some 9 } : State).drain = some 9 ∧ idleState.writeQueue = [] ∧
        idleState.readTracker = []) ∧
      (idleState.drain = none ∧ flyingWrite.writeQueue ≠ []) := by decide

theorem witness_HardwareResetAndItsRelease :
    heldState.rstHeld = true ∧ State.reset.rstHeld = false ∧ resetStraps.autoRecover = false ∧
      (⟨1, 3, true⟩ : Straps).autoRecover = true ∧ (⟨1, 3, true⟩ : Straps).jsize ≠ 0 ∧
      (⟨1, 0, true⟩ : Straps).jsize = 0 := by decide

/-- A frame error from a count of 7 and one from a wrong check, and a frame that is good. -/
theorem witness_LinkJudgesFramesAndFixesItsOwn :
    (∃ f, judgeFrame (requestBits 0x01 0x12 []) = .ok f ∧ f.code = 0x01) ∧
    State.reset.rstHeld = false ∧ State.reset.mcs = false ∧ heldState.mcs = false ∧ heldState.rstHeld = true ∧
      ({ State.reset with mcs := true } : State).mcs = true ∧ judgeFrame [] = .error 0 ∧
      (List.replicate 31 true).length < 32 ∧
      (wordsOfBits 1 (bitsOfWord 0x00071201) = [0x00071201] ∧ 6 < ((0x00071201#32).extractLsb' 16 8).toNat) ∧
      (wordsOfBits 1 (bitsOfWord 0x00001201) = [0x00001201] ∧ validFrame [0x00001201] = false) ∧
      (0x51#8).toNat ∉ [0x01, 0x02, 0x10, 0x11, 0x12, 0x20, 0x21, 0x30, 0x31, 0x38, 0x39, 0x40, 0x41, 0x42, 0x43, 0x50] ∧
      (with_ 0 [1, 2, 3]).args.length ≠ 0 ∧ (with_ 0 [1, 2, 3]).args.length ≠ 1 ∧
      (with_ 0 [1, 2, 3]).args.length ≠ 2 ∧ (with_ 0 [1, 2, 3]).args.length ≠ 6 :=
  ⟨⟨{ code := 0x01, sequence := 0x12, args := [] }, by decide +kernel, rfl⟩, by decide +kernel⟩

/-- The last byte of the sample region matches, the byte after it does not. -/
theorem witness_AddressesAreClassified :
    (mapped idleState).regions[0]? = some (some sampleRegion) ∧ sampleRegion.base.toNat ≤ (0x20000FFF#32).toNat ∧
      (0x20000FFF#32).toNat ≤ sampleRegion.base.toNat + 2 ^ sampleRegion.exponent - 1 ∧
      ¬(0x20001000#32).toNat ≤ sampleRegion.base.toNat + 2 ^ sampleRegion.exponent - 1 ∧
      (idleState.protects 0x0103FFFF = true ∧ idleState.protects 0x01040000 = false) := by decide

/-- A malformed WRITE, one that is turned away, and states in which each check decides. -/
theorem witness_WriteRequestsAreAdmitted :
    (({ sampleWrite with address := 0x20000004 } : WriteRequest).address.toNat % 8 ≠ 0) ∧
      (holding .drain idleState).hold ≠ .run ∧ ({ idleState with drain := some 9 } : State).drain ≠ none ∧
      (sampleWrite.address.toNat % 8 = 0 ∧ sampleWrite.address.toNat % 32 / 8 + sampleWrite.beats ≤ 4) ∧
      idleState.protects 0x01000000 = true ∧ (mapped idleState).classify 0x20000008 =
        { index := some 0, cls := .journaled, writeMask := 0xFE, exemptMask := 0x80, ack := .waited } ∧
      (0xFE#8).getLsbD 0 = false ∧ (0xFE#8).getLsbD 1 = true ∧ (0x80#8).getLsbD 7 = true ∧
      ({ mapped idleState with writeQueue := List.replicate 32 plainEntry } : State).writeQueue.length = 32 ∧
      idleState.controller = .idle ∧
      ({ idleState.settings with noEpochWrite := .autoOpen } : Settings).noEpochWrite = .autoOpen ∧
      (let g := { sampleRing with occupancy := 4092 }
       let s := { idleState with ring := some g }
       s.ring = some g ∧ g.owed + 2 = s.freeOf g ∧ s.nextEpoch = some 1 ∧ s.writeQueue.length < 32) ∧
      (let g := { sampleRing with occupancy := 4093 }
       ({ idleState with ring := some g } : State).freeOf g < g.owed + 2) := by decide

theorem witness_AcceptedWritesEnterTheQueue :
    activeState.active = some sampleEpoch ∧ activeState.filter = [] ∧
      (waitingState.filter = [] ++ (⟨0x20000000, none, some 0⟩ :: []) ∧
        sampleWrite.address - BitVec.ofNat 32 (sampleWrite.address.toNat % 32) = 0x20000000) ∧
      fullState.filter = [] ++ (⟨0x20000000, some 1, none⟩ :: []) := by decide

theorem witness_ReadRequestsAreAdmitted :
    (({ sampleReadRequest with beats := 0 } : ReadRequest).beats < 1) ∧ (holding .drain idleState).hold ≠ .run ∧
      (sampleReadRequest.address.toNat % 8 = 0 ∧ 1 ≤ sampleReadRequest.beats) ∧
      ({ idleState with readTracker := List.replicate 8 sampleRead } : State).readTracker.length = 8 ∧
      idleState.rstHeld = false ∧ idleState.drain = none := by decide

/-- A write in flight keeps a drain-mode hold from being quiet; an idle part is quiet. -/
theorem witness_PowerFailWarningBringsThePartToRest :
    (idleState.rstHeld = false ∧ idleState.hold = .run) ∧ heldState.rstHeld = true ∧
      (holding .freeze idleState).hold ≠ .run ∧
      ((holding .drain idleState).hold = .holding ∧ idleState.ops = [] ∧ idleState.writeQueue = [] ∧
        idleState.closing = none) ∧
      ((holding .drain flyingWrite).hold = .holding ∧ flyingWrite.writeQueue ≠ []) := by decide

theorem witness_SpaceWaitExpiryFailsTheCapture :
    waitingState.spaceWaiter = some ⟨0, 3, 1, 1, some 0⟩ ∧ waitingState.waitingRecord = some sampleRecord ∧
      (sampleRecord.entry :: sampleRecord.covered).Nodup ∧
      (∀ p ∈ sampleRecord.entry :: sampleRecord.covered, ∀ e ∈ waitingState.entryAt p, e.epoch = some sampleRecord.epoch) ∧
      (waitingState.entryAt 0).isSome = true := by decide

theorem witness_AutoCommitIsTakenOrHeldPending :
    activeState.active = some sampleEpoch ∧ activeState.controller = .active ∧ activeState.spaceWaiter = none ∧
      ({ activeState with autoTimer := some 0 } : State).autoTimer ≠ none ∧
      (activeState.closing = none ∧ activeState.hold = .run ∧ activeState.drain = none) ∧
      (holding .drain activeState).hold ≠ .run ∧ ({ activeState with pendingAuto := true } : State).pendingAuto = true ∧
      activeState.pendingAuto = false := by decide

/-- A space waiter of the ACTIVE epoch whose auto-commit timer runs. -/
theorem witness_AutoCommitIsTakenOrHeldPending_waiter :
    let s := { waitingState with autoTimer := some 0, pendingAuto := true }
    s.active = some sampleEpoch ∧ s.controller = .active ∧ s.autoTimer ≠ none ∧ s.pendingAuto = true ∧
      s.closing = none ∧ s.hold = .run ∧ s.drain = none ∧ s.spaceWaiter = some ⟨0, 3, 1, 1, some 0⟩ ∧
      s.waitingRecord = some sampleRecord ∧ (1#32) = sampleEpoch.number ∧
      (sampleRecord.entry :: sampleRecord.covered).Nodup ∧
      ∀ p ∈ sampleRecord.entry :: sampleRecord.covered, ∀ e ∈ s.entryAt p, e.epoch = some sampleEpoch.number := by
  decide

/-- A record that waits for a tag. -/
def waitingOp (r : Nat) (kind : OpKind) (who : Requester) : Op :=
  { sampleOp kind who with ready := r, phase := .waiting, timeout := none }

/-- Tags 0 and 47: with no record, tag 0 is the lowest FREE one; with all others quarantined, tag 47 is. -/
theorem witness_TagsAreGrantedInTheArbitersOrder :
    (∃ p ∈ [waitingOp 0 .dataRead (.read 2)], p.phase = .waiting) ∧
      (0 : DownTag) ∉ idleState.quarantined ∧ idleState.ops = [] ∧
      (∀ y < (47 : DownTag), y ∈ (List.finRange 48).filter (fun t => t != 47)) ∧
      (47 : DownTag) ∉ (List.finRange 48).filter (fun t => t != 47) ∧ (∀ x, x ∈ List.finRange 48) ∧
      idleState.mayIssue (.read 2) = true ∧ plainEntry.place = 1 ∧
      ({ idleState with writeQueue := [plainEntry] } : State).entryAt 1 = some plainEntry := by decide +kernel

/-- A retry count below the limit, and one at it. -/
theorem witness_BusyAnswersAreHeldAndReissued :
    (flyingWrite.answering 0 (sampleOp .dataWrite (.entry 1))) ∧
      (sampleOp .dataWrite (.entry 1)).retries < flyingWrite.settings.retryLimit.toNat ∧
      flyingWrite.settings.retryLimit.toNat ≤ 4 ∧ flyingWrite.settings.exhaustAction = .fail ∧
      ({ flyingWrite.settings with exhaustAction := .persist } : Settings).exhaustAction = .persist ∧
      flyingWrite.mayIssue (.entry 1) = true ∧ (holding .freeze flyingWrite).mayIssue (.entry 1) = false ∧
      (flyingWrite.hold = .run ∧ (holding .drain flyingWrite).modeInForce = .drain ∧
        (holding .drain flyingWrite).hold ≠ .run ∧ (holding .freeze flyingWrite).modeInForce ≠ .drain ∧
        (holding .freeze flyingWrite).hold ≠ .run) ∧
      ({ sampleOp .dataWrite (.entry 1) with phase := .held 0 } : Op).phase = .held 0 :=
  ⟨⟨by decide, by decide⟩, by decide, by decide, by decide, rfl, by decide, by decide, by decide, rfl⟩

theorem witness_TimeoutsQuarantineAndLateAnswersFree :
    flyingWrite.answering 0 (sampleOp .dataWrite (.entry 1)) ∧
      (∃ e, flyingWrite.entryAt 1 = some e) ∧ (∀ p, (sampleOp .dataRead (.read 2)).requester ≠ .entry p) ∧
      flyingWrite.flyingAt 0 = some (sampleOp .dataWrite (.entry 1)) ∧ flyingWrite.flyingAt 47 = none ∧
      (47 : DownTag) ∈ fullState.quarantined ∧ (1 : DownTag) ∉ fullState.quarantined ∧ fullState.flyingAt 1 = none :=
  ⟨⟨by decide, by decide⟩, ⟨{ plainEntry with stage := .issued }, by decide⟩, fun p => by simp [sampleOp], by decide⟩

/-- A queue with an ISSUED entry before the one at the issue pointer; the in-flight set with 7 records and with 8. -/
theorem witness_DataOperationsIssueUnderTheirConditions :
    (let s := { State.reset with
        writeQueue := [{ sampleEntry with stage := .issued }, { plainEntry with granule := 0x20000020 }],
        inFlight := List.replicate 7 ⟨0x20000000, 0, some 0⟩ };
      s.writeQueue = [{ sampleEntry with stage := .issued }] ++ { plainEntry with granule := 0x20000020 } :: [] ∧
        s.ops = [] ∧ plainEntry.stage = .ready ∧ s.inFlight.length < 8 ∧ (after .dataWriteIssue s).issues.length = 1) ∧
      ¬(List.replicate 8 (⟨0x20000000, 0, some 0⟩ : InFlight)).length < 8 ∧
      (sampleRead.stage = .hazardWait ∧ State.reset.writeQueue = [] ∧ State.reset.hold = .run) ∧
      ({ sampleRead with stage := .issued } : ReadEntry).stage ≠ .hazardWait ∧
      ((∀ e ∈ [{ sampleEntry with stage := .issued }], e.stage = .issued) ∧
        (waitingOp 0 .dataWrite (.entry 1)).phase = .waiting ∧
        (waitingOp 0 .dataWrite (.entry 1)).requester = .entry plainEntry.place ∧ plainEntry.stage ≠ .issued) := by
  decide +kernel

/-- A read in flight under tag 0. -/
def flyingRead : State :=
  { State.reset with
    readTracker := [{ sampleRead with stage := .issued }], ops := [{ sampleOp .dataRead (.read 2) with beats := 2 }] }

theorem witness_DataAnswersEndTheirRequests :
    flyingWrite.answering 0 (sampleOp .dataWrite (.entry 1)) ∧
      flyingWrite.entryAt 1 = some { plainEntry with stage := .issued } ∧
      flyingRead.answering 0 { sampleOp .dataRead (.read 2) with beats := 2 } ∧
      flyingRead.readAt 2 = some { sampleRead with stage := .issued } ∧ ([1, 2] : List Beat).length = 2 ∧
      ([1] : List Beat).length ≠ 2 :=
  ⟨⟨by decide, by decide⟩, by decide, ⟨by decide, by decide⟩, by decide, by decide, by decide⟩

/-- The head of the capture order with free at M + 1 and at M; waiting allowed, forbidden by FULL_WAIT_US 0 and by a
closing epoch; the waiter with and without space. -/
theorem witness_CapturesStartInOrderAndTakeSpace :
    let s := { activeState with writeQueue := [sampleEntry], captureOrder := [sampleRecord] }
    let full := { openRing with occupancy := 4093 }
    s.captureOrder = sampleRecord :: [] ∧ s.entryAt 0 = some sampleEntry ∧ s.spaceWaiter = none ∧
      s.mayStart sampleRecord sampleEntry = true ∧ sampleRecord.entry ∉ sampleRecord.covered ∧
      s.freeOf { openRing with occupancy := 4092 } = openRing.owed + 1 ∧ s.freeOf full < full.owed + 1 ∧
      s.isClosing 1 = false ∧ s.settings.fullWaitUs ≠ 0 ∧
      ({ s with closing := some capturingCloser, active := none } : State).isClosing 1 = true ∧
      waitingState.waitingRecord = some sampleRecord ∧ waitingState.ring = some full := by decide

theorem witness_CaptureAnswersMoveTheCapture :
    (capturing .undoRead .reading .undoRead).answering 0 { sampleOp .undoRead (.capture 0) with beats := 4 } ∧
      (capturing .undoRead .reading .undoRead).captureOf 0 = some sampleCapture ∧
      ((capturing .undoRead .reading .undoRead).entryAt 0).isSome = true ∧ sampleCapture.mark = .none ∧
      ({ sampleCapture with mark := .fault } : Capture).mark = .fault ∧ ([1, 2, 3, 4] : List Beat).length = 4 ∧
      (capturing .slotWrite .writing .undoWrite).answering 0 { sampleOp .slotWrite (.capture 0) with beats := 8 } :=
  ⟨⟨by decide, by decide⟩, by decide, by decide, rfl, rfl, rfl, by decide, by decide⟩

/-- A capture that has to ask behind one marked FAULT, in each of its steps; none that has; a freeze hold. -/
theorem witness_CaptureAnswersMoveTheCapture_requests :
    let s := { capturing .undoRead .writing .undoWrite with ops := [] }
    let first := { sampleCapture with entry := 9, mark := .fault }
    let c := { sampleCapture with step := .writing, oldBytes := some [1, 2, 3, 4] }
    s.ring.isSome = true ∧ s.geometry.isSome = true ∧ s.captures = [] ++ c :: [] ∧
      ({ s with captures := [first, c] } : State).captures = [first] ++ c :: [] ∧ first.mark = .fault ∧
      c.mark ≠ .fault ∧ s.ops = [] ∧ (∃ e ∈ s.writeQueue, e.place = c.entry) ∧ (s.entryAt c.entry).isSome = true ∧
      s.hold = .run ∧ idleState.captures = [] ∧
      ((holding .freeze s).hold ≠ .run ∧ (holding .freeze s).modeInForce = .freeze) := by decide

theorem witness_CloserAllocatesAndWritesItsMarker :
    let s := closer .capturing none
    s.closing = some capturingCloser ∧ s.ring = some openRing ∧ s.captureOrder = [] ∧ s.active = none ∧
      deferredState.closing = some capturingCloser ∧
      deferredState.active = some { sampleEpoch with number := 2, openSlot := none } ∧
      ({ s with captureOrder := [sampleRecord] } : State).captureOrder.any (fun r => r.epoch == 1) = true ∧
      (let t := closer .draining (some ⟨3, 2⟩)
       t.closing = some { capturingCloser with stage := .draining, closeSlot := some ⟨3, 2⟩ } ∧ t.writeQueue = [] ∧
         t.geometry = some ⟨0x01000000, 4096⟩ ∧ t.coversSeq 1 = true ∧ t.hold = .run ∧ t.ops = []) ∧
      (closer .draining (some ⟨4, 3⟩)).coversSeq 2 = false := by decide

theorem witness_AnchorClaimsAreServedInTurn :
    let mine : Claim := { claimant := .rollback, tail := 4, tailSeq := 3, numbers := none, target := none }
    idleState.ring = some sampleRing ∧ idleState.geometry = some ⟨0x01000000, 4096⟩ ∧ idleState.ops = [] ∧
      idleState.hold = .run ∧ idleState.closing = none ∧ mine ∈ [mine] ∧ mine.claimant = .rollback ∧
      ({ mine with claimant := .closer } : Claim).claimant = .closer ∧ sampleRing.inForce = some (.a, 2) ∧
      (formatClaim .b 1).target = some (.b, 1) ∧ (closer .marking (some ⟨3, 2⟩)).closing ≠ none ∧
      (waitingOp 0 .anchorWrite (.anchor ⟨.closer, .b, 3, 4, 3, none⟩)).phase = .waiting ∧
      (sampleOp .anchorWrite (.anchor ⟨.closer, .b, 3, 4, 3, none⟩)).kind = .anchorWrite ∧
      ((holding .freeze idleState).hold ≠ .run ∧ (holding .freeze idleState).modeInForce = .freeze) ∧
      ((holding .drain idleState).hold ≠ .run ∧ ∀ x ∈ [mine], x.claimant ≠ .closer) := by decide

theorem witness_MarkerAnswersMakeEpochsDurable :
    ({ activeState with ops := [sampleOp .slotWrite (.openSlot 1 1)] } : State).answering 0
        (sampleOp .slotWrite (.openSlot 1 1)) ∧
      ({ closer .marking (some ⟨3, 2⟩) with ops := [sampleOp .slotWrite .closer] } : State).answering 0
        (sampleOp .slotWrite .closer) ∧
      (closer .marking (some ⟨3, 2⟩)).closing =
        some { capturingCloser with stage := .marking, closeSlot := some ⟨3, 2⟩ } :=
  ⟨⟨by decide, by decide⟩, ⟨by decide, by decide⟩, by decide⟩

/-- An OPEN owed its write behind one that has a record; none owed; FAULTED; a freeze hold. -/
theorem witness_MarkerAnswersMakeEpochsDurable_requests :
    let w : OpenWrite := { epoch := 1, origin := .auto, slot := ⟨2, 1⟩ }
    let asked : OpenWrite := { epoch := 9, origin := .host, slot := ⟨4, 3⟩ }
    let s := { activeState with openWrites := [asked, w], ops := [sampleOp .slotWrite (.openSlot 9 3)] }
    s.ring = some openRing ∧ s.geometry = some ⟨0x01000000, 4096⟩ ∧ s.openWrites = [asked] ++ w :: [] ∧
      (∀ o ∈ s.ops, o.requester ≠ .openSlot w.epoch w.slot.sequence) ∧
      (∃ o ∈ s.ops, o.requester = .openSlot asked.epoch asked.slot.sequence) ∧ s.controller ≠ .faulted ∧
      s.hold = .run ∧ idleState.openWrites = [] ∧ (inState .faulted).controller = .faulted ∧
      ((holding .freeze s).hold ≠ .run ∧ (holding .freeze s).modeInForce = .freeze) := by decide

/-- The anchor writes of a closer, a rollback, a recovery and both of FORMAT. -/
theorem witness_AnchorAnswersMoveTheTail :
    (∀ who, (anchorInFlight who idleState).answering 0
      (sampleOp .anchorWrite (.anchor ⟨who, .b, 3, 4, 3, if who = .mount then some (2, 1) else none⟩))) ∧
      idleState.ring = some sampleRing ∧ (rolling .anchoring none).rollback.isSome = true ∧
      (mounting .recover .anchoring).mount = some { freshMount .recover .host 5 0 with phase := .anchoring } ∧
      (mounting .format .writingA).mount = some { freshMount .format .host 5 0 with phase := .writingA } ∧
      (mounting .format .writingB).mount = some { freshMount .format .host 5 0 with phase := .writingB } :=
  ⟨fun who => by cases who <;> exact ⟨by decide, by decide⟩, by decide, by decide, by decide, by decide, by decide⟩

theorem witness_ReplaysSettleAndRestoreInOrder :
    let g : Ring := { openRing with head := 4, occupancy := 2, nextSeq := 3, frontier := some 2 }
    (rolling .settling none).ring = some g ∧
      ((rolling .settling none).rollback.map (fun b => (b.phase, b.undoCount))) = some (.settling, 1) ∧
      g.coversSeq (g.nextSeq - 1) = true ∧ (rolling .settling none).writeQueue = [] ∧
      ({ g with frontier := some 1 } : Ring).coversSeq (g.nextSeq - 1) = false ∧
      ((rolling .replaying (some .waiting)).rollback.map (fun b => (b.phase, b.step, b.contents.isSome))) =
        some (.replaying, some .waiting, true) ∧
      ((recovering .waiting).mount.map (fun m => (m.phase, m.step, m.contents.isSome))) =
        some (.replaying, some .waiting, true) ∧
      (recovering .waiting).ring.isSome = true ∧ (recovering .waiting).ops = [] ∧
      (holding .drain (recovering .waiting)).hold ≠ .run ∧
      (rolling .replaying (some .waiting)).restoreClear 0x20000000 1 = true ∧
      ({ rolling .replaying (some .waiting) with
         inFlight := [⟨0x20000000, 0, none⟩] } : State).restoreClear 0x20000000 1 = false ∧
      ((rolling .replaying (some .restoring)).rollback.map (fun b => (b.phase, b.step, b.contents.isSome))) =
        some (.replaying, some .restoring, true) ∧
      ((recovering .restoring).mount.map (fun m => (m.phase, m.step, m.contents.isSome))) =
        some (.replaying, some .restoring, true) ∧
      (∃ o ∈ [sampleOp .restoreWrite .rollback], o.requester = .rollback) ∧
      (∃ o ∈ [sampleOp .restoreWrite .mount], o.requester = .mount) := by decide +kernel

/-- Each operation of a rollback in flight; a slot that passes the tests of R92 and one that does not; ordinals 1 and 2. -/
theorem witness_RollbackAnswersReplayTheEpoch :
    let s := { rolling .replaying (some .reading) with ops := [{ sampleOp .slotRead .rollback with beats := 8 }] }
    s.answering 0 { sampleOp .slotRead .rollback with beats := 8 } ∧ s.rollback.isSome = true ∧ s.ring.isSome = true ∧
      s.geometry = some ⟨0x01000000, 4096⟩ ∧ s.rollback.bind (·.cursor) = some ⟨3, 2, 1⟩ ∧
      s.undoSlotOk rolling.undoWords 7 1 ⟨3, 2, 1⟩ = true ∧ s.undoSlotOk zeroPayload 7 1 ⟨3, 2, 1⟩ = false ∧
      ({ rolling .replaying (some .restoring) with ops := [sampleOp .restoreWrite .rollback] } : State).answering 0
        (sampleOp .restoreWrite .rollback) ∧
      ({ rolling .abandoning none with ops := [sampleOp .slotWrite .rollback] } : State).answering 0
        (sampleOp .slotWrite .rollback) ∧
      (rolling .abandoning none).rollback.bind (·.abandonSlot) = some ⟨4, 3⟩ :=
  ⟨⟨by decide, by decide⟩, by decide, by decide, by decide, by decide, by decide +kernel, by decide +kernel,
    ⟨by decide, by decide⟩, ⟨by decide, by decide⟩, by decide⟩

/-- The rollback before its read and before the write of its ABANDON, with and without a record, and in a hold. -/
theorem witness_RollbackAnswersReplayTheEpoch_requests :
    let s := rolling .replaying (some .reading)
    s.ring.isSome = true ∧ s.geometry.isSome = true ∧ s.hold = .run ∧ s.ops = [] ∧
      (s.rollback.map (fun b => (b.phase, b.step, b.cursor))) = some (.replaying, some .reading, some ⟨3, 2, 1⟩) ∧
      ((rolling .abandoning none).rollback.map (fun b => (b.phase, b.abandonSlot))) =
        some (.abandoning, some ⟨4, 3⟩) ∧
      (rolling .abandoning none).ops = [] ∧ (holding .drain s).hold ≠ .run ∧
      ∃ o ∈ [sampleOp .slotRead .rollback], o.requester = .rollback := by decide

/-- R159: the fault leaves the CLOSE in flight without a requester, with its epoch and sequence, drops a waiting
ABANDON and keeps a data read. -/
theorem test_fault_leaves_orphan :
    let s := { closer .marking (some ⟨3, 2⟩) with
      ops := [sampleOp .slotWrite .closer, waitingOp 1 .slotWrite .rollback, waitingOp 2 .dataRead (.read 2)],
      openWrites := [⟨1, .host, ⟨2, 1⟩⟩] }
    let t := enterFaulted s
    t.ops.map (·.requester) = [.orphan (.slot 1 2), .read 2] ∧ t.openWrites = [] ∧ t.controller = .faulted := by
  decide +kernel

theorem witness_EntryToFaultedEndsTheWork :
    idleState.controller = .idle ∧ activeState.controller = .active ∧
      (rolling .settling none).controller = .rollingBack ∧ State.reset.controller = .unmounted ∧
      fullState.completions.length = 4 ∧ activeState.completions.length ≤ 2 := by decide

theorem witness_OperationsWithoutRequesterEndQuietly :
    let s := fun (k : OpKind) (w : Orphan) => { idleState with ops := [sampleOp k (.orphan w)] }
    (s .slotWrite (.slot 1 2)).answering 0 (sampleOp .slotWrite (.orphan (.slot 1 2))) ∧
      (s .anchorWrite (.anchor ⟨.closer, .b, 3, 4, 3, none⟩)).answering 0
        (sampleOp .anchorWrite (.orphan (.anchor ⟨.closer, .b, 3, 4, 3, none⟩))) ∧
      (s .restoreWrite (.restore 0x20 1 2)).answering 0 (sampleOp .restoreWrite (.orphan (.restore 0x20 1 2))) ∧
      (s .slotRead .slotRead).answering 0 (sampleOp .slotRead (.orphan .slotRead)) ∧ OpKind.slotWrite.reads = false :=
  ⟨⟨by decide, by decide⟩, ⟨by decide, by decide⟩, ⟨by decide, by decide⟩, ⟨by decide, by decide⟩, rfl⟩

theorem witness_MountsStartFromFaultedAndFailToUnmounted :
    let s := { inState .faulted with mountRequest := some ⟨.format, 5⟩ }
    s.mountRequest = some ⟨.format, 5⟩ ∧ s.controller = .faulted ∧ s.writeQueue = [] ∧ s.ops = [] ∧
      (({ s with writeQueue := [sampleEntry] } : State).writeQueue.any (fun e => e.cls == .journaled)) = true ∧
      (mounting .recover .scanning).mount.isSome = true := by decide

/-- The read of anchor A in flight, the other absent, failed and read; anchors valid, of another geometry and none. -/
theorem witness_AnchorReadsDecideTheMount :
    let o := { sampleOp .anchorRead (.mountAnchor .a) with beats := 8 }
    let s := { mounting .recover .readingAnchors with ops := [o] }
    s.answering 0 o ∧ s.mount = some (freshMount .recover .host 5 0) ∧ s.slotsInUse = 4096 ∧
      anchorValid 4096 (anchorSlot 7 4 4096 10 9 3 1) = true ∧ anchorWellFormed (anchorSlot 7 4 8192 10 9 3 1) = true ∧
      anchorValid 4096 (anchorSlot 7 4 8192 10 9 3 1) = false ∧ anchorWellFormed zeroPayload = false ∧
      later 4 3 = true ∧ later 0 0xFFFFFFFF = true ∧ (beatsOfWords (anchorSlot 7 4 4096 10 9 3 1)).length = 8 :=
  ⟨⟨by decide, by decide⟩, by decide, by decide, by decide, by decide, by decide, by decide, by decide, by decide,
    by decide⟩

/-- Before both reads; with A asked for; with both answered or asked for; in a hold. -/
theorem witness_AnchorReadsDecideTheMount_requests :
    let m := freshMount .recover .host 5 0
    let s := mounting .recover .readingAnchors
    s.mount = some m ∧ m.phase = .readingAnchors ∧ s.geometry = some ⟨0x01000000, 4096⟩ ∧ s.hold = .run ∧ s.ops = [] ∧
      m.findingA = .absent ∧ m.findingB = .absent ∧
      (∃ o ∈ [sampleOp .anchorRead (.mountAnchor .a)], o.requester = .mountAnchor .a) ∧
      (∀ o ∈ [sampleOp .anchorRead (.mountAnchor .a)], o.requester ≠ .mountAnchor .b) ∧
      ({ m with findingB := .failed } : Mount).findingB ≠ .absent ∧ (holding .drain s).hold ≠ .run := by decide

theorem witness_ScanAcceptsSlotsByTheirShape :
    scanning.answering 0 { sampleOp .slotRead .mount with beats := 8 } ∧
      (scanning.mount.map (fun m => (m.phase, m.scanCursor, m.chosen.isSome, m.scanned))) =
        some (.scanning, some ⟨10, 9⟩, true, 0) ∧ scanning.geometry = some ⟨0x01000000, 4096⟩ ∧
      validAt (markerSlot .openSlot 7 9 3 0) 7 9 = true ∧ validAt (markerSlot .openSlot 7 8 3 0) 7 9 = false ∧
      (Shape.empty.accept 1 3 0 false = some (.firstOpen 3 0) ∧ Shape.empty.accept 3 3 0 false = none) ∧
      (beatsOfWords (markerSlot .openSlot 7 9 3 0)).length = 8 :=
  ⟨⟨by decide, by decide⟩, by decide, by decide, by decide, by decide, by decide, by decide⟩

/-- The scan before its read, with its read asked for, and in a hold. -/
theorem witness_ScanAcceptsSlotsByTheirShape_requests :
    let s := { scanning with ops := [] }
    (s.mount.map (fun m => (m.phase, m.scanCursor))) = some (.scanning, some ⟨10, 9⟩) ∧ s.geometry.isSome = true ∧
      s.hold = .run ∧ s.ops = [] ∧ (∃ o ∈ scanning.ops, o.requester = .mount) ∧ (holding .drain s).hold ≠ .run := by
  decide

theorem witness_ScanHeadSetsUpTheRing :
    (scanning.mount.map (fun m => (m.chosen.isSome, m.shape.openEpoch))) = some (true, none) ∧
      scanning.controller = .mounting ∧ scanning.geometry = some ⟨0x01000000, 4096⟩ ∧
      (Shape.firstOpen 3 0).openEpoch = some (3, 0) ∧ (Shape.secondOpen 3 1).openEpoch = some (3, 1) ∧
      later (4 : Word) 3 = true ∧ later (3 : Word) 1 = true := by decide

theorem witness_RecoveryAnswersReplayTheEpoch :
    let s := { recovering .reading with ops := [{ sampleOp .slotRead .mount with beats := 8 }] }
    s.answering 0 { sampleOp .slotRead .mount with beats := 8 } ∧
      (s.mount.map (fun m => (m.phase, m.chosen.isSome, m.openEpoch, m.cursor))) =
        some (.replaying, true, some (3, 1), some ⟨11, 10, 1⟩) ∧ s.ring.isSome = true ∧ s.controller = .mounting ∧
      s.undoSlotOk recovering.undoWords 7 3 ⟨11, 10, 1⟩ = true ∧ s.undoSlotOk zeroPayload 7 3 ⟨11, 10, 1⟩ = false ∧
      ({ recovering .restoring with ops := [sampleOp .restoreWrite .mount] } : State).answering 0
        (sampleOp .restoreWrite .mount) ∧
      abandoning.answering 0 (sampleOp .slotWrite .mount) ∧
      abandoning.mount.bind (·.abandonSlot) = some ⟨12, 4105⟩ :=
  ⟨⟨by decide, by decide⟩, by decide +kernel, by decide, by decide, by decide +kernel, by decide +kernel,
    ⟨by decide, by decide⟩, ⟨by decide, by decide⟩, by decide⟩

/-- The recovery before its read and before the write of its ABANDON, with and without a record, and in a hold. -/
theorem witness_RecoveryAnswersReplayTheEpoch_requests :
    let s := recovering .reading
    let a := { abandoning with ops := [] }
    s.ring.isSome = true ∧ s.geometry.isSome = true ∧ s.hold = .run ∧ s.ops = [] ∧
      (s.mount.map (fun m => (m.phase, m.step, m.cursor))) = some (.replaying, some .reading, some ⟨11, 10, 1⟩) ∧
      (a.mount.map (fun m => (m.phase, m.abandonSlot, m.openEpoch))) =
        some (.abandoning, some ⟨12, 4105⟩, some (3, 1)) ∧
      a.ops = [] ∧ (∃ o ∈ abandoning.ops, o.requester = .mount) ∧ (holding .drain s).hold ≠ .run := by decide +kernel

end Sys2Proof.Tests
end

/-! PROOF. What every step keeps, by the moves of Laws/Moves.lean. -/
section

namespace Sys2Proof.Machine

/-! ### Conditions on the view -/

/-- A condition on the view that every move keeps is kept by a run of moves. -/
theorem Goes.keeps {P : View → Prop} (h : ∀ a b, Move a b → P a → P b) {a b : View} (g : Goes a b) (ha : P a) : P b := by
  induction g with
  | refl => exact ha
  | tail _ hm ih => exact h _ _ hm ih

/-- A condition on states that speaks of the view alone, and that every move keeps, is kept by every step. -/
theorem step_keeps {P : View → Prop} {Q : State → Prop} (spec : ∀ s, Q s ↔ P (view s))
    (h : ∀ a b, Move a b → P a → P b) {s t : State} (hs : Q s) (e : step s = .next t) : Q t :=
  (spec t).mpr ((step_leads e).keeps h ((spec s).mp hs))

/-! ### The ring's sequences -/

/-- Next sequence is tail sequence plus occupancy, in the view (R2). -/
def View.RingOrdered (a : View) : Prop := ∀ t n k, a.ring = some (t, n, k) → n = t + BitVec.ofNat 32 k

theorem ringOrdered_iff_view (s : State) : s.RingOrdered ↔ (view s).RingOrdered := by
  cases hr : s.ring with
  | none => simp [State.RingOrdered, View.RingOrdered, view, hr]
  | some r =>
    simp only [State.RingOrdered, View.RingOrdered, view, hr, Option.map_some, Ring.key, Option.some.injEq,
      Prod.mk.injEq, and_imp, forall_eq']
    exact ⟨by rintro h _ _ _ rfl rfl rfl; exact h, fun h => h _ _ _ rfl rfl rfl⟩

/-- The occupancy counted anew from the tail claimed keeps the relation: it is the distance to next sequence (R19). -/
theorem nextSeq_eq_tailSeq_add_distance (n q : Word) : n = q + BitVec.ofNat 32 (n - q).toNat := by
  rw [BitVec.ofNat_toNat, BitVec.setWidth_eq, BitVec.add_comm, BitVec.sub_add_cancel]

/-- One allocation raises next sequence and occupancy alike (R9). -/
theorem nextSeq_succ {t n : Word} {k : Nat} (h : n = t + BitVec.ofNat 32 k) : n + 1 = t + BitVec.ofNat 32 (k + 1) := by
  rw [h, BitVec.ofNat_add, BitVec.add_assoc]
  rfl

/-- Only a set-up, an allocation, an acknowledged anchor and the end of the ring state change the ring's sequences. -/
theorem Move.keeps_ringOrdered {a b : View} (m : Move a b) (h : a.RingOrdered) : b.RingOrdered := by
  cases m with
  | ringGone => exact nofun
  | ringSet q =>
    rintro t n k ⟨⟩
    simp
  | allocated t n o hr =>
    rintro t' n' k ⟨⟩
    exact nextSeq_succ (h t n o hr)
  | anchored t n q o hr =>
    rintro t' n' k ⟨⟩
    exact nextSeq_eq_tailSeq_add_distance n q
  | resetPart => exact nofun
  | rstHeld => exact nofun
  | _ => exact h

/-- Settles O10: the relation speaks of the view's ring, and every move keeps it. -/
theorem stepsKeepRingSequences : Obligations.StepsKeepRingSequences :=
  fun _ _ hs e => step_keeps ringOrdered_iff_view (fun _ _ m => m.keeps_ringOrdered) hs e

/-! ### The state after reset -/

/-- Settles O14: after reset every collection is empty, the settings are their defaults and no record is present. -/
theorem resetStateIsSound : Obligations.ResetStateIsSound := by
  refine ⟨?_, ?_, ?_, nofun, ?_, ?_, ?_⟩
  · exact ⟨by decide, by decide, by decide, by decide, nofun, by decide, by decide, by decide, by decide,
      fun _ h => absurd h List.not_mem_nil⟩
  · refine ⟨by decide, fun r hr => ?_⟩
    exact absurd (List.eq_of_mem_replicate hr) nofun
  · exact ⟨List.nodup_nil, by decide, fun _ => rfl⟩
  · exact ⟨rfl, rfl, rfl, nofun, nofun, nofun, nofun, nofun⟩
  · exact ⟨fun h => absurd rfl h, fun _ _ h => absurd h List.not_mem_nil⟩
  · exact ⟨List.nodup_nil, List.nodup_nil, fun _ h => absurd h List.not_mem_nil⟩

end Sys2Proof.Machine
end

/-! PROOF. The formats of the journal's slots (R4 to R6, R147). -/
section

namespace Sys2Proof.Machine

/-! ### The sum of a slot's words -/

theorem wordSum_eq_sum (ws : List Word) : wordSum ws = ws.sum := List.sum_eq_foldl.symm

/-- The check word makes the sum of the slot that it stands in 0x5EC72408, wherever it stands (R6). -/
theorem wordSum_withCheck (front back : List Word) :
    wordSum (front ++ [checkWord (front ++ back)] ++ back) = Config.slotSum := by
  simp only [checkWord, wordSum_eq_sum, List.sum_append, List.sum_singleton]
  ring

theorem validCheck_iff (ws : List Word) :
    validCheck ws = true ↔ ws.length = 16 ∧ wordSum ws = Config.slotSum := by
  simp [validCheck]

/-- Sixteen words of which one is the check word of the others have a valid check (R6). -/
theorem validCheck_withCheck {front back : List Word} (h : front.length + back.length = 15) :
    validCheck (front ++ [checkWord (front ++ back)] ++ back) = true := by
  refine (validCheck_iff _).mpr ⟨?_, wordSum_withCheck front back⟩
  simp only [List.length_append, List.length_singleton]
  omega

/-! ### Layouts -/

theorem validCheck_ringSlot (k : SlotKind) (j q e a c i : Word) {p : List Word} (h : p.length = 8) :
    validCheck (ringSlot k j q e a c i p) = true :=
  validCheck_withCheck (by simp [h])

theorem validCheck_anchorSlot (j g n t q e l : Word) : validCheck (anchorSlot j g n t q e l) = true := by
  have h := validCheck_withCheck (back := []) (front :=
    [kindWord .anchor, j, g, n, t, q, e, l] ++ List.replicate 7 0#32) rfl
  rw [List.append_nil, List.append_nil] at h
  exact h

/-! ### Words in beats -/

theorem wordsOfBeat_append (hi lo : Word) : wordsOfBeat (hi ++ lo) = [lo, hi] := by
  have hlo : (hi ++ lo).extractLsb' 0 32 = lo := by
    rw [BitVec.extractLsb'_append_eq_of_add_le (by omega), BitVec.extractLsb'_eq_self]
  have hhi : (hi ++ lo).extractLsb' 32 32 = hi := by
    rw [BitVec.extractLsb'_append_eq_of_le (by omega), Nat.sub_self, BitVec.extractLsb'_eq_self]
  exact congrArg₂ (fun a b : Word => [a, b]) hlo hhi

/-- Words laid into beats in pairs come back out of them (R147). -/
theorem wordsOfBeats_beatsOfWords (ws : List Word) (h : ws.length % 2 = 0) :
    wordsOfBeats (beatsOfWords ws) = ws ∧ 2 * (beatsOfWords ws).length = ws.length := by
  induction ws using beatsOfWords.induct with
  | case1 lo hi rest ih =>
    obtain ⟨hw, hn⟩ := ih (by simp only [List.length_cons] at h; omega)
    constructor
    · calc wordsOfBeats (beatsOfWords (lo :: hi :: rest))
          = wordsOfBeat (hi ++ lo) ++ wordsOfBeats (beatsOfWords rest) := rfl
        _ = lo :: hi :: rest := by rw [wordsOfBeat_append, hw]; rfl
    · simp only [beatsOfWords, List.length_cons]
      omega
  | case2 ws hshort =>
    match ws, h, hshort with
    | [], _, _ => exact ⟨rfl, rfl⟩
    | [_], h, _ => exact absurd h (by simp)
    | lo :: hi :: rest, _, hshort => exact absurd rfl (hshort lo hi rest)

/-- Settles O15: the layouts hold by their definitions, the check by the sum's. -/
theorem writtenSlotsHaveTheirLayout : Obligations.WrittenSlotsHaveTheirLayout := by
  refine ⟨⟨?_, fun _ _ _ _ _ => rfl, ?_, ?_⟩, wordsOfBeats_beatsOfWords⟩
  · intro k j q e a c i p hp
    refine ⟨checkWord ([kindWord k, j, q, e, a, c, i] ++ p), ?_, validCheck_ringSlot k j q e a c i hp⟩
    cases k <;> rfl
  · exact fun j g n t q e l => ⟨_, rfl, validCheck_anchorSlot j g n t q e l⟩
  · intro ws
    rw [validCheck_iff, wordSum_eq_sum]
    rfl

end Sys2Proof.Machine
end

/-! PROOF. The ring's allocations and its frontier (R9, R14, R16), the classification of addresses (R1, R122 to R124) and
the passing of time (R13, R79, R155, R179). -/
section

namespace Sys2Proof.Machine

/-! ### Allocation -/

/-- The alerts latched once an allocation has been made whose test of R16 took free from `free` down by `k`. -/
def State.latchedBelow (s : State) (free k : Nat) : BitVec 6 :=
  if s.controller ≠ .mounting ∧ s.settings.lowSpaceSlots.toNat ≤ free ∧ free - k < s.settings.lowSpaceSlots.toNat then
    s.latched ||| 0x04#6
  else s.latched

theorem spaceLowTest_eq (before after : Nat) (s : State) :
    spaceLowTest before after s =
      { s with
        latched :=
          if s.controller ≠ .mounting ∧ s.settings.lowSpaceSlots.toNat ≤ before
              ∧ after < s.settings.lowSpaceSlots.toNat then s.latched ||| 0x04#6
          else s.latched } := by
  unfold spaceLowTest
  split <;> rfl

/-- What an allocation gives and does, where there is a ring (R9, R16). -/
theorem allocate_eq {s : State} {g : Ring} (h : s.ring = some g) :
    allocate s =
      some (g.nextSlot,
        { s with ring := some (g.allocated s.slotsInUse), latched := s.latchedBelow (s.freeOf g) 1 }) := by
  simp only [allocate, h, spaceLowTest_eq]
  rfl

/-! ### The frontier -/

/-- The frontier moves over the sequences from `c` on, up to the first that is pending or to the last allocated (R14). -/
theorem advanceFrontier_spec (n : Nat) (c : Word) (waiting : List Word) (f : Option Word) :
    ∃ k ≤ n, (∀ i < k, c + BitVec.ofNat 32 i ∉ waiting) ∧ (k = n ∨ c + BitVec.ofNat 32 k ∈ waiting) ∧
      advanceFrontier n c waiting f = if k = 0 then f else some (c + BitVec.ofNat 32 k - 1) := by
  induction n generalizing c f with
  | zero => exact ⟨0, le_rfl, nofun, .inl rfl, rfl⟩
  | succ n ih =>
    have shift : ∀ i, c + BitVec.ofNat 32 (i + 1) = c + 1 + BitVec.ofNat 32 i := fun i =>
      (nextSeq_succ rfl).symm.trans (add_right_comm _ _ _)
    have here (c : Word) : c + BitVec.ofNat 32 0 = c := BitVec.add_zero c
    by_cases hc : c ∈ waiting
    · refine ⟨0, Nat.zero_le _, nofun, .inr (by rwa [here]), ?_⟩
      simp [advanceFrontier, hc]
    · obtain ⟨k, hk, hbefore, hstop, heq⟩ := ih (c + 1) (some c)
      refine ⟨k + 1, by omega, ?_, ?_, ?_⟩
      · intro i hi
        cases i with
        | zero => rwa [here]
        | succ i =>
          rw [shift]
          exact hbefore i (by omega)
      · rw [shift]
        exact hstop.imp_left (congrArg (· + 1))
      · have hstep : advanceFrontier (n + 1) c waiting f = advanceFrontier n (c + 1) waiting (some c) := by
          simp [advanceFrontier, hc]
        rw [hstep, heq, shift, if_neg k.succ_ne_zero]
        split
        · subst k
          rw [here, add_sub_cancel_right]
        · rfl

/-- Settles O18: an allocation by its definition, an acknowledgement by what the frontier's advance gives. -/
theorem ringAllocatesAtHeadAndTracksTheFrontier : Obligations.RingAllocatesAtHeadAndTracksTheFrontier := by
  refine ⟨fun s g hg => allocate_eq hg, fun g q => ?_⟩
  obtain ⟨k, hk, hbefore, hstop, heq⟩ :=
    advanceFrontier_spec (g.nextSeq - g.afterFrontier).toNat g.afterFrontier (g.unacked.erase q) g.frontier
  refine ⟨k, hk, hbefore, hstop, ?_, fun x => rfl⟩
  show g.acknowledged q = _
  rw [Ring.acknowledged, heq]
  rfl

/-! ### Classification -/

theorem firstMatch_eq_none {a : Word} {l : List (Option Region)} (h : ∀ r, some r ∈ l → r.covers a = false) (n : Nat) :
    firstMatch a n l = none := by
  induction l generalizing n with
  | nil => rfl
  | cons x l ih =>
    have hl := ih (fun r hr => h r (List.mem_cons_of_mem _ hr)) (n + 1)
    cases x with
    | none => exact hl
    | some r => rw [firstMatch, h r List.mem_cons_self, if_neg Bool.false_ne_true, hl]

theorem firstMatch_eq_some {a : Word} {l : List (Option Region)} {i : Nat} {r : Region} (hi : l[i]? = some (some r))
    (hr : r.covers a = true) (first : ∀ j < i, ∀ q, l[j]? = some (some q) → q.covers a = false) (n : Nat) :
    firstMatch a n l = some (n + i, r) := by
  induction l generalizing n i with
  | nil => cases hi
  | cons x l ih =>
    cases i with
    | zero =>
      obtain rfl : x = some r := by simpa using hi
      rw [firstMatch, hr, if_pos rfl]
      rfl
    | succ i =>
      have hl := ih (by simpa using hi) (fun j hj q hq => first (j + 1) (by omega) q (by simpa using hq)) (n + 1)
      rw [Nat.add_right_comm, Nat.add_assoc] at hl
      cases x with
      | none => exact hl
      | some q => rw [firstMatch, first 0 i.succ_pos q rfl, if_neg Bool.false_ne_true, hl]

theorem covers_iff (r : Region) (a : Word) :
    r.covers a = true ↔ r.base.toNat ≤ a.toNat ∧ a.toNat ≤ r.base.toNat + 2 ^ r.exponent - 1 := by
  simp [Region.covers]

theorem geometryValid_iff (base : Word) (slots : Nat) :
    geometryValid base slots = true ↔
      1024 ≤ slots ∧ slots ≤ 262144 ∧ slots % 256 = 0 ∧ base.toNat % 65536 = 0 ∧ base.toNat + 64 * slots ≤ 2 ^ 32 := by
  simp [geometryValid, and_assoc]

/-- The journal area ends after its slots where the geometry is valid, and runs to the top of the address space where it
is not (R1). -/
theorem inJournalArea_iff (base : Word) (slots : Nat) (a : Word) :
    inJournalArea base slots a = true ↔
      slots ≠ 0 ∧ base.toNat ≤ a.toNat ∧ (geometryValid base slots = true → a.toNat < base.toNat + 64 * slots) := by
  cases hv : geometryValid base slots <;> simp [inJournalArea, hv, and_assoc]

/-- Settles O34: the table is searched from index 0, and the journal area is that of R1. -/
theorem addressesAreClassified : Obligations.AddressesAreClassified := by
  intro a s
  refine ⟨fun i r hm first => ?_, fun hnone => ?_, ?_⟩
  · obtain ⟨hi, hcov⟩ := hm
    have hmatch : firstMatch a 0 s.regions = some (0 + i, r) :=
      firstMatch_eq_some hi ((covers_iff r a).mpr hcov)
        (fun j hj q hq => Bool.eq_false_iff.mpr fun hc => first j hj q ⟨hq, (covers_iff q a).mp hc⟩) 0
    simp [State.classify, hmatch]
  · have hmatch : firstMatch a 0 s.regions = none := by
      refine firstMatch_eq_none (fun r hr => Bool.eq_false_iff.mpr fun hc => ?_) 0
      obtain ⟨i, hi⟩ := List.mem_iff_getElem?.mp hr
      exact hnone i r ⟨hi, (covers_iff r a).mp hc⟩
    rw [State.classify, hmatch]
    cases s.settings.defaultClass <;> rfl
  · rw [State.protects, inJournalArea_iff, geometryValid_iff]

/-! ### Time -/

theorem dueTag_eq_some_iff (o : Op) (t : DownTag) : o.dueTag = some t ↔ o.phase = .inFlight t 0 := by
  unfold Op.dueTag
  split
  · rename_i u hp
    simp [hp]
  · rename_i hp
    exact ⟨nofun, fun h => absurd h (hp t)⟩

theorem dueTag_eq_none_iff (o : Op) : o.dueTag = none ↔ ∀ t, o.phase ≠ .inFlight t 0 := by
  simp only [Option.eq_none_iff_forall_ne_some, ne_eq, dueTag_eq_some_iff]

/-- The space wait is due when the waiter's timer has run out and its capture record waits (R13). -/
theorem spaceDue_iff (s : State) :
    s.spaceWaiter.bind (·.timer) = some 0 ∧ s.waitingRecord.isSome = true ↔
      ∃ w c, s.spaceWaiter = some w ∧ w.timer = some 0 ∧ c ∈ s.captureOrder ∧ c.entry = w.entry := by
  cases hw : s.spaceWaiter with
  | none => simp
  | some w => simp [State.waitingRecord, hw]

theorem passTime_cycle {s : State} {tr : Transaction} {bit : Bool} {rest : List Bool} (ht : s.transaction = some tr)
    (hm : s.mdi = bit :: rest) : passTime s = { s with transaction := some (tr.cycle bit), mdi := rest } := by
  simp [passTime, mckCycle?, ht, hm]

theorem passTime_microsecond {s : State} (h : s.transaction = none ∨ s.mdi = []) : passTime s = advanceTime s := by
  unfold passTime
  cases hc : mckCycle? s with
  | none => rfl
  | some t =>
    obtain ⟨tr, bit, rest, ht, hm, -⟩ := mckCycle?_eq hc
    simp [ht, hm] at h

/-- Settles O2: `dueCommand` tries the three kinds of expiry in their order, and `passTime` what is left. -/
theorem emptyQueueLetsTimePass : Obligations.EmptyQueueLetsTimePass := by
  intro s hs spaceDue
  have hstep : step s = idle s := by rw [step, hs]
  have hdue : s.spaceWaiter.bind (·.timer) = some 0 ∧ s.waitingRecord.isSome = true ↔ spaceDue := spaceDue_iff s
  refine ⟨fun h => ?_, fun h ht => ?_, fun h ht => ⟨fun before after o t ho hp hb => ?_, fun hnone => ?_⟩⟩
  · rw [hstep, idle, dueCommand, if_pos (hdue.mpr h)]
  · rw [hstep, idle, dueCommand, if_neg (h ∘ hdue.mp), if_pos ht]
  · have hf : s.ops.findSome? Op.dueTag = some t :=
      List.findSome?_eq_some_iff.mpr
        ⟨before, o, after, ho, (dueTag_eq_some_iff o t).mpr hp, fun x hx => (dueTag_eq_none_iff x).mpr (hb x hx)⟩
    rw [hstep, idle, dueCommand, if_neg (h ∘ hdue.mp), if_neg ht, hf]
    rfl
  · have hf : s.ops.findSome? Op.dueTag = none :=
      List.findSome?_eq_none_iff.mpr fun x hx => (dueTag_eq_none_iff x).mpr (hnone x hx)
    have hidle : step s = .next (passTime s) := by
      rw [hstep, idle, dueCommand, if_neg (h ∘ hdue.mp), if_neg ht, hf]
      rfl
    refine ⟨fun tr bit rest htr hm => ?_, fun hq => ?_⟩
    · rw [hidle, passTime_cycle htr hm]
      rfl
    · rw [hidle, passTime_microsecond hq]
      rfl

end Sys2Proof.Machine
end

/-! PROOF. How an event reaches its effect: memory's answers (R147, R157), the part's own steps, and the operations left
without a requester (R159). -/
section

namespace Sys2Proof.Machine

/-! ### Records and fields -/

/-- The two spellings of a filter that leaves out one value of a field. -/
theorem filter_bne {α β : Type} [BEq β] [LawfulBEq β] [DecidableEq β] (l : List α) (f : α → β) (b : β) :
    l.filter (fun a => f a != b) = l.filter (fun a => f a ≠ b) :=
  List.filter_congr fun a _ => by rw [Bool.eq_iff_iff]; simp

theorem dropOp_eq (s : State) (r : Nat) : s.dropOp r = { s with ops := s.ops.filter (fun x => x.ready ≠ r) } := by
  rw [State.dropOp, filter_bne]

theorem hasOp_eq_true_iff (s : State) (who : Requester) : s.hasOp who = true ↔ ∃ o ∈ s.ops, o.requester = who := by
  simp [State.hasOp]

theorem hasOp_eq_false_iff (s : State) (who : Requester) : s.hasOp who = false ↔ ∀ o ∈ s.ops, o.requester ≠ who := by
  simp [State.hasOp]

/-- The address of slot `i` of the geometry in use (R1, R143). -/
theorem slotAddress_eq {s : State} {m : Geometry} (h : s.geometry = some m) (i : Nat) :
    s.slotAddress i = m.base + BitVec.ofNat 32 (64 * i) := by
  rw [State.slotAddress, h]
  rfl

theorem slotsInUse_eq {s : State} {m : Geometry} (h : s.geometry = some m) : s.slotsInUse = m.slots := by
  rw [State.slotsInUse, h]
  rfl

theorem capacity_eq {s : State} {m : Geometry} (h : s.geometry = some m) : s.capacity = m.slots - 2 := by
  rw [State.capacity, h]
  rfl

theorem journalNumber_eq {s : State} {g : Ring} (h : s.ring = some g) : s.journalNumber = g.journal := by
  rw [State.journalNumber, h]
  rfl

theorem hasSpace_eq {s : State} {g : Ring} (h : s.ring = some g) (k : Nat) :
    s.hasSpace k = decide (g.owed + k ≤ s.freeOf g) := by
  rw [State.hasSpace, h]

/-! ### What a hold allows -/

/-- Outside a hold every requester may ask (R152). -/
theorem mayIssue_of_run {s : State} (h : s.hold = .run) (who : Requester) : s.mayIssue who = true := by
  simp [State.mayIssue, h]

/-- In a freeze hold nobody may ask (R152). -/
theorem mayIssue_of_freeze {s : State} (h : s.hold ≠ .run) (f : s.modeInForce = .freeze) (who : Requester) :
    s.mayIssue who = false := by
  unfold State.mayIssue
  split
  · contradiction
  · rw [f]

/-- The requesters that a drain hold lets ask: all but a rollback and a mount, and their anchor writes (R152). -/
def Requester.asksInDrain : Requester → Bool
  | .rollback => false
  | .mount => false
  | .mountAnchor _ => false
  | .anchor w => decide (w.claimant = .closer)
  | _ => true

theorem mayIssue_of_drain {s : State} (h : s.hold ≠ .run) (f : s.modeInForce = .drain) (who : Requester) :
    s.mayIssue who = who.asksInDrain := by
  unfold State.mayIssue
  split
  · contradiction
  · rw [f]
    cases who <;> rfl

/-- A requester that a drain hold lets ask is kept back by a freeze hold alone (R152). -/
theorem mayIssue_iff {who : Requester} (w : who.asksInDrain = true) (s : State) :
    s.mayIssue who = true ↔ s.hold = .run ∨ s.modeInForce = .drain := by
  by_cases h : s.hold = .run
  · simp [mayIssue_of_run h, h]
  · cases f : s.modeInForce with
    | freeze => simp [mayIssue_of_freeze h f, h]
    | drain => simp [mayIssue_of_drain h f, w]

/-- A requester that no hold lets ask (R152). -/
theorem mayIssue_iff_run {who : Requester} (w : who.asksInDrain = false) (s : State) :
    s.mayIssue who = true ↔ s.hold = .run := by
  by_cases h : s.hold = .run
  · simp [mayIssue_of_run h, h]
  · cases f : s.modeInForce with
    | freeze => simp [mayIssue_of_freeze h f, h]
    | drain => simp [mayIssue_of_drain h f, w, h]

/-! ### Events -/

theorem eventOf_some {e : Option State} {s x : State} (h : e = some x) : eventOf e s = .next (settle x) := by
  rw [h]
  rfl

theorem ownStep_some {f : State → Option State} {s x : State} (h : f s = some x) : ownStep f s = .next (settle x) := by
  rw [ownStep, internalStep, h]

theorem ownStep_none {f : State → Option State} {s : State} (h : f s = none) : ownStep f s = .next s := by
  rw [ownStep, internalStep, h]

/-! ### Memory's answers -/

theorem beatsFit_iff (o : Op) (data : List Beat) :
    o.beatsFit data = true ↔ o.kind.reads = false ∨ data.length = o.beats := by
  simp [Op.beatsFit]

section
variable {s x : State} {t : DownTag} {o : Op} {data : List Beat}

theorem answer_eq (h : s.answering t o) (a : MemoryAnswer) : answer? t a data s = some (answerOp o t a data s) := by
  obtain ⟨hq, hf⟩ := h
  rw [answer?, if_neg (by simpa using hq), hf]

/-- An OK with the operation's beats reaches its requester (R157). -/
theorem finalAnswer_ok (h : s.answering t o) (fit : o.kind.reads = false ∨ data.length = o.beats)
    (hx : finalOk o data (s.dropOp o.ready) = x) : finalAnswer t .ok data s = .next (settle x) := by
  refine eventOf_some ((answer_eq h _).trans ?_)
  rw [answerOf, answerOp, if_pos ((beatsFit_iff o data).mpr fit), hx]

/-- An OK to a read with another number of beats is a final failure (R147). -/
theorem finalAnswer_misfit (h : s.answering t o) (hk : o.kind.reads = true) (fit : data.length ≠ o.beats)
    (hx : finalFail o false (s.dropOp o.ready) = x) : finalAnswer t .ok data s = .next (settle x) := by
  refine eventOf_some ((answer_eq h _).trans ?_)
  rw [answerOf, answerOp, if_neg, hx]
  rw [beatsFit_iff, hk]
  simpa using fit

/-- A FAIL is a final failure (R157). -/
theorem finalAnswer_fail (h : s.answering t o) (hx : finalFail o false (s.dropOp o.ready) = x) :
    finalAnswer t .fail data s = .next (settle x) :=
  eventOf_some ((answer_eq h _).trans (congrArg some hx))

end

/-! ### Operations without a requester -/

/-- Settles O55: the requester of the record decides what its end does, `orphanOk` and `orphanFailed` for each kind of
work. -/
theorem operationsWithoutRequesterEndQuietly : Obligations.OperationsWithoutRequesterEndQuietly := by
  intro t o work data s ha ho d logged ok fail
  have hd : s.dropOp o.ready = d := dropOp_eq s o.ready
  have hok : ok (orphanOk work d) := fun fit => finalAnswer_ok ha fit (by rw [hd, finalOk, ho])
  have hfail : fail (orphanFailed work d) := finalAnswer_fail ha (by rw [hd, finalFail, ho])
  cases work with
  | slot epoch sequence => exact ⟨hok, hfail⟩
  | anchor w => exact ⟨hok, hfail⟩
  | restore granule epoch sequence => exact ⟨hok, hfail⟩
  | slotRead => exact ⟨hok, hfail⟩

end Sys2Proof.Machine
end

/-! PROOF. The requests of the M-link that open an epoch, commit one and start a mount (R67, R71, R105). -/
section

namespace Sys2Proof.Machine

/-! ### The release of MCS# -/

section
variable {c : LinkCommand} {r : LinkRequest} {s t : State} {code : Response} {words : List Word}

/-- A request whose owner changes nothing leaves its answer pending (R183). -/
theorem linkStep_refusal (hr : s.rstHeld = false) (h : counted c r s = refusal code words s) :
    linkStep c r s = .next (s.answered code r.sequence words) := by
  simp only [linkStep, takeReply, hr, Bool.false_eq_true, if_false, h]
  rfl

/-- A request whose owner acts leaves its answer pending, and what it enables follows (R180). -/
theorem linkStep_act (hr : s.rstHeld = false) (h : counted c r s = actReply code words t) :
    linkStep c r s = .next (settle (t.answered code r.sequence words)) := by
  simp only [linkStep, takeReply, hr, Bool.false_eq_true, if_false, h]
  rfl

end

/-- One test of a request: where it applies the owner answers, and otherwise the next test is made. -/
theorem Reply.tested {c A B : Prop} [Decidable c] {reply first rest : Reply}
    (e : reply = if c then first else rest) (ha : c → reply = first → A) (hb : ¬c → reply = rest → B) :
    if c then A else B := by
  by_cases h : c
  · rw [if_pos h] at e ⊢
    exact ha h e
  · rw [if_neg h] at e ⊢
    exact hb h e

/-! ### FORMAT_JOURNAL and RECOVER_JOURNAL -/

/-- The tests of R105 in their order, the geometry's spelled out (R1). -/
theorem mountReply_eq (kind : MountKind) (seed : Word) (s : State) :
    mountReply kind seed s =
      if s.controller = .mounting ∨ (s.controller = .faulted ∧ s.mountRequest ≠ none) then busyReply s
      else if s.controller = .idle ∨ s.controller = .active ∨ s.controller = .rollingBack then
        refusedReply .wrongState s
      else if s.drain ≠ none then refusedReply .wrongState s
      else if s.hold ≠ .run then refusedReply .holding s
      else if ¬(1024 ≤ s.settings.journalSlots.toNat ∧ s.settings.journalSlots.toNat ≤ 262144
          ∧ s.settings.journalSlots.toNat % 256 = 0 ∧ s.settings.journalBase.toNat % 65536 = 0
          ∧ s.settings.journalBase.toNat + 64 * s.settings.journalSlots.toNat ≤ 2 ^ 32) then
        refusedReply .geometry s
      else if s.controller = .faulted then
        actReply .started [] { s with mountRequest := some { kind := kind, seed := seed } }
      else actReply .started [] (startMount kind .host seed s) := by
  simp only [mountReply, ← geometryValid_iff, Bool.not_eq_true, Option.isSome_iff_ne_none]
  cases s.controller <;> rfl

/-- Settles O30, along the tests of R105. -/
theorem formatAndRecoverStartAMount : Obligations.FormatAndRecoverStartAMount := by
  intro q seed kind s hr request kept answers base slots
  have refuse {code words} (h : mountReply kind kept s = refusal code words s) : answers (s.answered code q words) := by
    cases kind <;> exact linkStep_refusal hr h
  have act {t : State} (h : mountReply kind kept s = actReply .started [] t) :
      answers (settle (t.answered .started q [])) := by
    cases kind <;> exact linkStep_act hr h
  refine Reply.tested (mountReply_eq kind kept s) (fun _ => refuse) fun h1 e => ?_
  refine Reply.tested e (fun _ => refuse) fun h2 e => ?_
  refine Reply.tested e (fun _ => refuse) fun _ e => ?_
  refine Reply.tested e (fun _ => refuse) fun _ e => ?_
  refine Reply.tested e (fun _ => refuse) fun _ e => ?_
  exact Reply.tested e (fun _ => act) fun _ => act

/-! ### BEGIN_EPOCH -/

/-- The OPEN of the ACTIVE epoch takes the head of the ring, and its write is owed (R69). -/
theorem allocateOpen_eq {s : State} {a : EpochRecord} {g : Ring} (ha : s.active = some a) (hg : s.ring = some g) :
    allocateOpen s =
      { s with
        active := some { a with openSlot := some g.nextSlot },
        openWrites := s.openWrites ++ [{ epoch := a.number, origin := a.origin, slot := g.nextSlot }],
        ring := some (g.allocated s.slotsInUse), latched := s.latchedBelow (s.freeOf g) 1 } := by
  simp only [allocateOpen, ha, allocate_eq hg]

/-- The record of an epoch as it opens (R68). -/
def State.openedRecord (s : State) (origin : Trigger) (n : Word) : EpochRecord :=
  { number := n, origin := origin, openSlot := none, undoCount := 0, filterless := 0, failed := 0,
    openedAt := s.timebase }

/-- The Epoch Controller as an epoch opens, before its OPEN (R66, R68, R79). -/
def State.opening (s : State) (origin : Trigger) (n : Word) : State :=
  { s with
    active := some (s.openedRecord origin n), nextEpoch := some (epochAfter n), autoTimer := s.settings.autoTimer,
    controller := .active }

theorem openEpoch_deferred {s : State} {g : Ring} {n : Word} (origin : Trigger) (hn : s.nextEpoch = some n)
    (hg : s.ring = some g) (hd : s.defersOpen = true) :
    openEpoch origin s = latchAuto origin { s.opening origin n with ring := some { g with owed := g.owed + 2 } } := by
  simp only [openEpoch, hn, hd, if_true, State.owe, State.setRing, hg]
  rfl

theorem openEpoch_allocated {s : State} {g : Ring} {n : Word} (origin : Trigger) (hn : s.nextEpoch = some n)
    (hg : s.ring = some g) (hd : s.defersOpen = false) :
    openEpoch origin s =
      latchAuto origin
        { s.opening origin n with
          active := some { s.openedRecord origin n with openSlot := some g.nextSlot },
          openWrites := s.openWrites ++ [{ epoch := n, origin := origin, slot := g.nextSlot }],
          ring := some { g.allocated s.slotsInUse with owed := g.owed + 1 },
          latched := (s.opening origin n).latchedBelow (s.freeOf g) 1 } := by
  have ho : allocateOpen (s.opening origin n) = _ := allocateOpen_eq rfl hg
  simp only [openEpoch, hn, hd, Bool.false_eq_true, if_false]
  show latchAuto origin ((allocateOpen (s.opening origin n)).owe _) = _
  rw [ho]
  rfl

/-- The tests of R67 in their order, and the opening (R68). -/
theorem beginReply_eq (s : State) :
    beginReply s =
      if s.controller = .unmounted ∨ s.controller = .mounting then refusedReply .notMounted s
      else if s.controller = .faulted ∨ s.controller = .rollingBack then refusedReply .wrongState s
      else if s.controller = .active then refusedReply .epochOpen s
      else if s.drain ≠ none then refusedReply .wrongState s
      else if s.hold ≠ .run then refusedReply .holding s
      else if s.hasSpace 2 = false then refusedReply .journalFull s
      else
        actReply .done [((openEpoch .host s).active.map (·.number)).getD 0, deferredWord (openEpoch .host s).active]
          (openEpoch .host s) := by
  simp only [beginReply, Option.isSome_iff_ne_none]

/-- The number after one, as R66 says it: from 2^32 − 1 to 1. -/
theorem epochAfter_eq (n : Word) : epochAfter n = if n = 0xFFFFFFFF#32 then 1 else n + 1 := by
  have : n + 1 = 0#32 ↔ n = 0xFFFFFFFF#32 := by bv_omega
  simp only [epochAfter, this]
  rfl

/-- Settles O26, along the tests of R67 and the two forms of the opening. -/
theorem beginEpochOpensAnEpoch : Obligations.BeginEpochOpensAnEpoch := by
  intro q s hr answers
  have refuse {code words} (h : beginReply s = refusal code words s) : answers (s.answered code q words) :=
    linkStep_refusal hr h
  have act {words} {t : State} (h : beginReply s = actReply .done words t) :
      answers (settle (t.answered .done q words)) := linkStep_act hr h
  refine Reply.tested (beginReply_eq s) (fun _ => refuse) fun _ e => ?_
  refine Reply.tested e (fun _ => refuse) fun _ e => ?_
  refine Reply.tested e (fun _ => refuse) fun _ e => ?_
  refine Reply.tested e (fun _ => refuse) fun _ e => ?_
  refine Reply.tested e (fun _ => refuse) fun _ e => ?_
  intro g hg
  have hfull : s.hasSpace 2 = false ↔ s.freeOf g < g.owed + 2 := by simp [hasSpace_eq hg]
  simp only [hfull] at e
  refine Reply.tested e (fun _ => refuse) fun _ opens => ?_
  intro n hn opened t deferred
  have hlatch : (s.opening .host n).latchedBelow (s.freeOf g) 1 = _ := if_congr (and_iff_right nofun) rfl rfl
  have ht : s.opening .host n = { t with active := some opened } := by
    simp only [State.opening, epochAfter_eq, Settings.autoTimer]
    rfl
  have hdef : s.defersOpen = deferred := by
    rw [Bool.eq_iff_iff]
    cases hc : s.closing <;> simp [State.defersOpen, deferred, hc]
  cases hd : deferred with
  | true =>
    rw [openEpoch_deferred .host hn hg (hdef.trans hd), ht] at opens
    exact act opens
  | false =>
    rw [openEpoch_allocated .host hn hg (hdef.trans hd), hlatch, ht] at opens
    exact act opens

end Sys2Proof.Machine
end

/-! PROOF. How entries fail for space (R13, R34, R56), and what rests on it: the end of a space wait and the acceptance of
a commit (R71, R72). -/
section

namespace Sys2Proof.Machine

/-! ### One entry fails -/

theorem addIncident_incidents (i : Incident) (s : State) :
    (addIncident i s).incidents = s.incidents ++ [i].take (16 - s.incidents.length) := by
  have room : s.incidents.length < 16 ↔ 16 - s.incidents.length ≠ 0 := by omega
  simp only [addIncident, Config.incidentCapacity, latch_rest, room]
  cases h : 16 - s.incidents.length <;> simp

/-- The record with `k` more failed entries (R32, R34). -/
def EpochRecord.plusFailed (r : EpochRecord) (k : Nat) : EpochRecord := { r with failed := r.failed + k }

/-- The number of entries of an epoch among some. -/
def countOf (es : List WriteEntry) (n : Word) : Nat := es.countP (fun e => e.epoch = some n)

theorem countFailed_rest (n : Option Word) (s : State) :
    (countFailed n s).writeQueue = s.writeQueue ∧ (countFailed n s).responses = s.responses ∧
      (countFailed n s).incidents = s.incidents ∧ (countFailed n s).captureOrder = s.captureOrder ∧
      (countFailed n s).filter = s.filter ∧ (countFailed n s).spaceWaiter = s.spaceWaiter ∧
      (countFailed n s).ring = s.ring ∧ (countFailed n s).captures = s.captures ∧
      (countFailed n s).inFlight = s.inFlight ∧ (countFailed n s).readTracker = s.readTracker := by
  cases n <;> simp [countFailed]

/-- The record of each epoch that is ACTIVE or closing counts the failures of its own entries. -/
theorem failEntry_records (e : WriteEntry) (st : Status) (k : IncidentKind) (s : State) :
    (failEntry e st k s).active = s.active.map (fun a => a.plusFailed (countOf [e] a.number)) ∧
      (failEntry e st k s).closing =
        s.closing.map (fun c => { c with record := c.record.plusFailed (countOf [e] c.record.number) }) := by
  have before : ∀ x : State, x.active = s.active → x.closing = s.closing →
      (countFailed e.epoch x).active = s.active.map (fun a => a.plusFailed (countOf [e] a.number)) ∧
        (countFailed e.epoch x).closing =
          s.closing.map (fun c => { c with record := c.record.plusFailed (countOf [e] c.record.number) }) := by
    intro x ha hc
    cases he : e.epoch with
    | none => simp [countFailed, ha, hc, countOf, he, EpochRecord.plusFailed]
    | some n =>
      simp only [countFailed, State.mapEpoch, ha, hc, countOf, he, List.countP_singleton, Option.some.injEq,
        decide_eq_true_eq]
      constructor <;> refine Option.map_congr fun a _ => ?_
      · by_cases h : a.number = n
        · rw [if_pos h, if_pos h.symm]
          rfl
        · rw [if_neg h, if_neg (Ne.symm h)]
          rfl
      · by_cases h : a.record.number = n
        · rw [if_pos h, if_pos h.symm]
          rfl
        · rw [if_neg h, if_neg (Ne.symm h)]
          rfl
  unfold failEntry
  cases e.ack <;> exact before _ (by simp) (by simp)

theorem failEntry_writeQueue (e : WriteEntry) (st : Status) (k : IncidentKind) (s : State) :
    (failEntry e st k s).writeQueue = s.writeQueue.filter (fun x => x.place ≠ e.place) := by
  unfold failEntry
  cases e.ack <;> simp [countFailed_rest, dequeue, filter_bne]

theorem failEntry_responses (e : WriteEntry) (st : Status) (k : IncidentKind) (s : State) :
    (failEntry e st k s).responses =
      s.responses ++ ([e].filter (fun e => e.ack = .waited)).map
        (fun e => { tag := e.tag, status := st, data := [] }) := by
  unfold failEntry
  cases h : e.ack <;> simp [countFailed_rest, h, respond]

theorem failEntry_incidents (e : WriteEntry) (st : Status) (k : IncidentKind) (s : State) :
    (failEntry e st k s).incidents =
      s.incidents ++ (([e].filter (fun e => e.ack = .posted)).map (postedIncident k)).take
        (16 - s.incidents.length) := by
  unfold failEntry
  cases h : e.ack <;> simp [countFailed_rest, h, addIncident_incidents]

theorem failEntry_rest (e : WriteEntry) (st : Status) (k : IncidentKind) (s : State) :
    (failEntry e st k s).captureOrder = s.captureOrder ∧ (failEntry e st k s).filter = s.filter ∧
      (failEntry e st k s).spaceWaiter = s.spaceWaiter ∧ (failEntry e st k s).ring = s.ring ∧
      (failEntry e st k s).captures = s.captures ∧ (failEntry e st k s).inFlight = s.inFlight ∧
      (failEntry e st k s).readTracker = s.readTracker := by
  unfold failEntry
  cases e.ack <;> simp [countFailed_rest]

/-! ### Entries fail one after another -/

/-- Entries fail JOURNAL_FULL in order (R34). -/
def failAll (es : List WriteEntry) (s : State) : State := es.foldl (fun s e => failFull e s) s

/-- The entries at some places fail, where there are any. -/
def failPlaces (ps : List Nat) (s : State) : State :=
  ps.foldl (fun s p =>
    match s.entryAt p with
    | some e => failFull e s
    | none => s) s

theorem entryAt_place {s : State} {p : Nat} {e : WriteEntry} (h : s.entryAt p = some e) : e.place = p := by
  simpa using List.find?_some h

/-- The failure of one entry leaves those at other places where they are. -/
theorem entryAt_failFull {s : State} {e : WriteEntry} {p : Nat} (h : p ≠ e.place) :
    (failFull e s).entryAt p = s.entryAt p := by
  rw [State.entryAt, failFull, failEntry_writeQueue, List.find?_filter, State.entryAt]
  congr 1
  funext x
  by_cases hx : x.place = p <;> simp [hx, h]

/-- Failing places is failing entries, and where no place comes twice they are the entries that stand there at first. -/
theorem failPlaces_eq_failAll (ps : List Nat) (s : State) :
    ∃ es, failPlaces ps s = failAll es s ∧ (ps.Nodup → es = ps.filterMap s.entryAt) := by
  induction ps generalizing s with
  | nil => exact ⟨[], rfl, fun _ => rfl⟩
  | cons p ps ih =>
    cases hp : s.entryAt p with
    | none =>
      obtain ⟨es, heq, hes⟩ := ih s
      refine ⟨es, ?_, fun hn => ?_⟩
      · rw [← heq]
        simp only [failPlaces, List.foldl_cons, hp]
      · rw [List.filterMap_cons_none hp]
        exact hes (List.nodup_cons.mp hn).2
    | some e =>
      obtain ⟨es, heq, hes⟩ := ih (failFull e s)
      refine ⟨e :: es, ?_, fun hn => ?_⟩
      · rw [failAll, List.foldl_cons, ← failAll, ← heq]
        simp only [failPlaces, List.foldl_cons, hp]
      · obtain ⟨hnot, hrest⟩ := List.nodup_cons.mp hn
        rw [List.filterMap_cons_some hp, hes hrest]
        refine congrArg _ (List.filterMap_congr fun q hq => entryAt_failFull ?_)
        rw [entryAt_place hp]
        rintro rfl
        exact hnot hq

/-- The capture order, the filter and the space waiter without a capture that fails (R56). -/
def State.withoutCapture (s : State) (c : CaptureRecord) : State :=
  { s with
    captureOrder := s.captureOrder.filter (fun r => r.entry ≠ c.entry),
    filter := s.filter.filter (fun f => f.link ≠ some c.entry),
    spaceWaiter := s.spaceWaiter.filter (fun w => w.entry != c.entry) }

theorem failForSpace_eq (c : CaptureRecord) (s : State) :
    failForSpace c s = failPlaces (c.entry :: c.covered) (s.withoutCapture c) := by
  rw [failForSpace, filter_bne, filter_bne]
  rfl

/-- A capture that fails takes its entry and those covered by it, in list order where no place comes twice. -/
theorem failForSpace_eq_failAll (c : CaptureRecord) (s : State) :
    ∃ es, failForSpace c s = failAll es (s.withoutCapture c) ∧
      ((c.entry :: c.covered).Nodup → es = (c.entry :: c.covered).filterMap s.entryAt) := by
  rw [failForSpace_eq]
  exact failPlaces_eq_failAll _ _

theorem failAll_rest (es : List WriteEntry) (s : State) :
    (failAll es s).captureOrder = s.captureOrder ∧ (failAll es s).filter = s.filter ∧
      (failAll es s).spaceWaiter = s.spaceWaiter ∧ (failAll es s).ring = s.ring ∧
      (failAll es s).captures = s.captures ∧ (failAll es s).inFlight = s.inFlight ∧
      (failAll es s).readTracker = s.readTracker := by
  induction es generalizing s with
  | nil => simp [failAll]
  | cons e es ih =>
    have h := ih (failFull e s)
    simp only [failFull, failEntry_rest] at h
    exact h

theorem failAll_writeQueue (es : List WriteEntry) (s : State) :
    (failAll es s).writeQueue = s.writeQueue.filter (fun x => x.place ∉ es.map (·.place)) := by
  induction es generalizing s with
  | nil => simp [failAll]
  | cons e es ih =>
    have h := ih (failFull e s)
    rw [failFull, failEntry_writeQueue, List.filter_filter] at h
    refine h.trans (List.filter_congr fun x _ => ?_)
    rw [Bool.eq_iff_iff]
    simp [and_comm]

theorem failAll_responses (es : List WriteEntry) (s : State) :
    (failAll es s).responses =
      s.responses ++ (es.filter (fun e => e.ack = .waited)).map
        (fun e => { tag := e.tag, status := .journalFull, data := [] }) := by
  induction es generalizing s with
  | nil => simp [failAll]
  | cons e es ih =>
    have h := ih (failFull e s)
    rw [failFull, failEntry_responses, List.append_assoc, ← List.map_append, ← List.filter_append] at h
    exact h

/-- What has room in the log joins it, whether offered at once or in two parts. -/
theorem append_take_append_take {α : Type} (n : Nat) (l a b : List α) :
    (l ++ a.take (n - l.length)) ++ b.take (n - (l ++ a.take (n - l.length)).length) =
      l ++ (a ++ b).take (n - l.length) := by
  rw [List.append_assoc, List.take_append]
  congr 3
  simp only [List.length_append, List.length_take]
  omega

theorem failAll_incidents (es : List WriteEntry) (s : State) :
    (failAll es s).incidents =
      s.incidents ++ ((es.filter (fun e => e.ack = .posted)).map (postedIncident .postedWriteNoSpace)).take
        (16 - s.incidents.length) := by
  induction es generalizing s with
  | nil => simp [failAll]
  | cons e es ih =>
    have h := ih (failFull e s)
    rw [failFull, failEntry_incidents, append_take_append_take, ← List.map_append, ← List.filter_append] at h
    exact h

theorem plusFailed_plusFailed (r : EpochRecord) (e : WriteEntry) (es : List WriteEntry) :
    (r.plusFailed (countOf [e] r.number)).plusFailed (countOf es r.number) =
      r.plusFailed (countOf (e :: es) r.number) := by
  simp only [EpochRecord.plusFailed, countOf, Nat.add_assoc, ← List.countP_append, List.singleton_append]

/-- Each record counts the failures of its own entries. -/
theorem failAll_records (es : List WriteEntry) (s : State) :
    (failAll es s).active = s.active.map (fun a => a.plusFailed (countOf es a.number)) ∧
      (failAll es s).closing =
        s.closing.map (fun c => { c with record := c.record.plusFailed (countOf es c.record.number) }) := by
  induction es generalizing s with
  | nil => simp [failAll, countOf, EpochRecord.plusFailed]
  | cons e es ih =>
    obtain ⟨ha, hc⟩ := ih (failFull e s)
    obtain ⟨ha', hc'⟩ := failEntry_records e .journalFull .postedWriteNoSpace s
    rw [failFull, ha', Option.map_map] at ha
    rw [failFull, hc', Option.map_map] at hc
    refine ⟨ha.trans (Option.map_congr fun a _ => plusFailed_plusFailed a e es),
      hc.trans (Option.map_congr fun c _ => ?_)⟩
    exact congrArg (fun r => ({ c with record := r } : ClosingRecord)) (plusFailed_plusFailed c.record e es)

theorem countOf_eq_length {es : List WriteEntry} {n : Word} (h : ∀ e ∈ es, e.epoch = some n) (k : Word) :
    countOf es k = if k = n then es.length else 0 := by
  split
  · rename_i hk
    exact List.countP_eq_length.mpr fun e he => by simp [h e he, hk]
  · rename_i hk
    exact List.countP_eq_zero.mpr fun e he => by simpa [h e he] using Ne.symm hk

/-! ### The space waiter -/

theorem waitingRecord_entry {s : State} {w : SpaceWaiter} {c : CaptureRecord} (hw : s.spaceWaiter = some w)
    (hc : s.waitingRecord = some c) : c.entry = w.entry := by
  rw [State.waitingRecord, hw] at hc
  simpa using List.find?_some hc

/-- The entries that leave are those at the places that fail. -/
theorem place_mem_failing_iff {s : State} {x : WriteEntry} (hx : x ∈ s.writeQueue) (ps : List Nat) :
    x.place ∈ (ps.filterMap s.entryAt).map (·.place) ↔ x.place ∈ ps := by
  simp only [List.mem_map, List.mem_filterMap]
  constructor
  · rintro ⟨e, ⟨p, hp, he⟩, hplace⟩
    rwa [← hplace, entryAt_place he]
  · intro hp
    cases he : s.entryAt x.place with
    | none => exact absurd (List.find?_eq_none.mp he x hx) (by simp)
    | some e => exact ⟨e, ⟨x.place, hp, he⟩, entryAt_place he⟩

/-- Settles O39: the expiry fails the capture's entries in order, each as R34 says. -/
theorem spaceWaitExpiryFailsTheCapture : Obligations.SpaceWaitExpiryFailsTheCapture := by
  intro w c n s hw hn hc hnodup hepoch failing posted room t
  obtain ⟨es, ht, hes⟩ := failForSpace_eq_failAll c s
  obtain rfl : es = failing := hes hnodup
  replace ht : t = failAll failing (s.withoutCapture c) := ht
  have hfail : ∀ e ∈ failing, e.epoch = some c.epoch := fun e he => by
    obtain ⟨p, hp, hpe⟩ := List.mem_filterMap.mp he
    exact hepoch p hp e hpe
  obtain ⟨horder, hfilter, hwaiter, hring, hcaptures, hflight, htracker⟩ := failAll_rest failing (s.withoutCapture c)
  obtain ⟨hactive, -⟩ := failAll_records failing (s.withoutCapture c)
  rw [ht]
  refine ⟨?_, ?_, horder, hfilter, ?_, failAll_responses _ _, ?_, ?_, hring, hcaptures, hflight, htracker⟩
  · rw [← ht]
    exact eventOf_some (by simp [spaceWaitExpires?, hw, hc, hn, t])
  · rw [hwaiter, State.withoutCapture, hw]
    simp [waitingRecord_entry hw hc]
  · rw [failAll_writeQueue]
    refine List.filter_congr fun x hx => decide_eq_decide.mpr (not_congr ?_)
    exact place_mem_failing_iff hx _
  · rw [failAll_incidents]
    refine congrArg (fun l => s.incidents ++ l.take room) (List.map_congr_left fun e he => ?_)
    rw [postedIncident, hfail e (List.mem_of_mem_filter he)]
    rfl
  · rw [hactive]
    refine Option.map_congr fun a _ => ?_
    rw [countOf_eq_length hfail]
    split <;> rfl

/-! ### COMMIT_EPOCH -/

/-- The Epoch Controller as a commit is accepted, before the closing epoch's space waiter fails (R72). -/
def State.committing (s : State) (trigger : Trigger) (a : EpochRecord) : State :=
  { s with
    closing := some { record := a, trigger := trigger, stage := .capturing, closeSlot := none }, active := none,
    controller := .idle, filter := [], autoTimer := none, pendingAuto := false }

/-- No space waiter belongs to the epoch: nothing fails with the commit (R72). -/
theorem acceptCommit_noWaiter {s : State} {a : EpochRecord} (ha : s.active = some a)
    (h : ∀ w c, s.spaceWaiter = some w → s.waitingRecord = some c → w.epoch ≠ a.number) (trigger : Trigger) :
    acceptCommit trigger s = latchAuto trigger (s.committing trigger a) := by
  simp only [acceptCommit, ha]
  congr 1
  show failWaiterOf a.number (s.committing trigger a) = _
  unfold failWaiterOf
  split
  · rename_i w c hw hc
    exact if_neg (h w c hw hc)
  · rfl

/-- A space waiter of the epoch fails with the commit (R72). -/
theorem acceptCommit_waiter {s : State} {a : EpochRecord} {w : SpaceWaiter} {c : CaptureRecord}
    (ha : s.active = some a) (hw : s.spaceWaiter = some w) (hc : s.waitingRecord = some c) (hn : w.epoch = a.number)
    (trigger : Trigger) :
    acceptCommit trigger s = latchAuto trigger (failForSpace c (s.committing trigger a)) := by
  have hw' : (s.committing trigger a).spaceWaiter = some w := hw
  have hc' : (s.committing trigger a).waitingRecord = some c := hc
  simp only [acceptCommit, ha]
  show latchAuto trigger (failWaiterOf a.number (s.committing trigger a)) = _
  rw [failWaiterOf, hw', hc']
  exact congrArg _ (if_pos hn)

/-- The tests of R71 in their order, and the acceptance (R72). -/
theorem commitReply_eq (s : State) :
    commitReply s =
      if s.controller = .unmounted ∨ s.controller = .mounting then refusedReply .notMounted s
      else if s.controller = .faulted then refusedReply .wrongState s
      else if s.drain ≠ none then refusedReply .wrongState s
      else if s.hold ≠ .run ∧ s.modeInForce = .freeze then refusedReply .holding s
      else if s.closing ≠ none then busyReply s
      else if s.controller = .idle then refusedReply .noEpoch s
      else if s.controller = .rollingBack then refusedReply .wrongState s
      else actReply .started (commitWords (acceptCommit .host s).closing) (acceptCommit .host s) := by
  simp only [commitReply, Option.isSome_iff_ne_none, State.frozen, Bool.and_eq_true, decide_eq_true_eq]

/-- Settles O27, along the tests of R71; the closing record counts the entries that fail with a space waiter. -/
theorem commitEpochStartsTheCloser : Obligations.CommitEpochStartsTheCloser := by
  intro q s hr answers
  have refuse {code words} (h : commitReply s = refusal code words s) : answers (s.answered code q words) :=
    linkStep_refusal hr h
  have act {words} {t : State} (h : commitReply s = actReply .started words t) :
      answers (settle (t.answered .started q words)) := linkStep_act hr h
  refine Reply.tested (commitReply_eq s) (fun _ => refuse) fun _ e => ?_
  refine Reply.tested e (fun _ => refuse) fun _ e => ?_
  refine Reply.tested e (fun _ => refuse) fun _ e => ?_
  refine Reply.tested e (fun _ => refuse) fun _ e => ?_
  refine Reply.tested e (fun _ => refuse) fun _ e => ?_
  refine Reply.tested e (fun _ => refuse) fun _ e => ?_
  refine Reply.tested e (fun _ => refuse) fun _ accepts => ?_
  intro a ha t
  refine ⟨fun hnone => ?_, fun w c hw hc hn => ?_⟩
  · rw [acceptCommit_noWaiter ha hnone] at accepts
    exact act accepts
  · rw [acceptCommit_waiter ha hw hc hn] at accepts
    obtain ⟨es, hfails, hes⟩ := failForSpace_eq_failAll c t
    obtain ⟨-, hclosing⟩ := failAll_records es (t.withoutCapture c)
    rw [← hfails] at hclosing
    refine ⟨countOf es a.number, fun hnodup hepoch => ?_, hclosing, ?_⟩
    · rw [hes hnodup, countOf_eq_length, if_pos rfl]
      · rfl
      · intro e he
        obtain ⟨p, hp, hpe⟩ := List.mem_filterMap.mp he
        exact hepoch p hp e hpe
    · have hstate : s.committing .host a = t := rfl
      rw [hstate] at accepts
      rw [show (latchAuto .host (failForSpace c t)).closing = _ from hclosing] at accepts
      exact act accepts

end Sys2Proof.Machine
end

/-! PROOF. Undo capture: the start of a capture, its requests and their answers (R46, R51 to R58). -/
section

namespace Sys2Proof.Machine

/-! ### The start of a capture -/

theorem epochOf_mapEpoch {f : EpochRecord → EpochRecord} (hf : ∀ r, (f r).number = r.number) (s : State) (n : Word) :
    (s.mapEpoch n f).epochOf n = (s.epochOf n).map f := by
  have closing : (((s.closing.map (fun c => if c.record.number = n then { c with record := f c.record } else c)).map
      (·.record)).filter (fun r => r.number == n)) = ((s.closing.map (·.record)).filter (fun r => r.number == n)).map f := by
    cases s.closing with
    | none => rfl
    | some c => by_cases hc : c.record.number = n <;> simp [Option.filter, hc, hf]
  unfold State.epochOf State.mapEpoch
  cases s.active with
  | none => exact closing
  | some a =>
    by_cases ha : a.number = n
    · simp [ha, hf]
    · simp only [Option.map_some, ha, if_false]
      exact closing

/-- The counts of an epoch after an UNDO allocation (R52). -/
def EpochRecord.plusUndo (filterless : Bool) (r : EpochRecord) : EpochRecord :=
  { r with
    undoCount := r.undoCount + 1, filterless := if filterless then r.filterless + 1 else r.filterless }

/-- The entry of a capture and those covered by it as the UNDO's sequence is handed out (R46, R52). -/
theorem undo_entries (c : CaptureRecord) (q : Word) (l : List WriteEntry) (h : c.entry ∉ c.covered) :
    (l.map (fun e => if e.place = c.entry then { e with slotSeq := some q, stage := .undoRead } else e)).map
        (fun e => if c.covered.contains e.place then { e with slotSeq := some q } else e) =
      l.map (fun x =>
        if x.place = c.entry then { x with slotSeq := some q, stage := .undoRead }
        else if x.place ∈ c.covered then { x with slotSeq := some q } else x) := by
  rw [List.map_map]
  refine List.map_congr_left fun x _ => ?_
  by_cases hx : x.place = c.entry <;> simp [hx, h]

/-- The UNDO allocation of a capture (R46, R52). Its ordinal is the undo count that it makes. -/
theorem allocateUndo_eq {c : CaptureRecord} {g : Ring} {s : State} {n : Nat} (hg : s.ring = some g)
    (hc : c.entry ∉ c.covered)
    (hn : (((s.epochOf c.epoch).map (EpochRecord.plusUndo c.filterless)).map (·.undoCount)).getD 0 = n) :
    allocateUndo c s = some { s with
      ring := some (g.allocated s.slotsInUse), latched := s.latchedBelow (s.freeOf g) 1,
      active := s.active.map (fun a => if a.number = c.epoch then a.plusUndo c.filterless else a),
      closing := s.closing.map (fun k =>
        if k.record.number = c.epoch then { k with record := k.record.plusUndo c.filterless } else k),
      writeQueue := s.writeQueue.map (fun x =>
        if x.place = c.entry then { x with slotSeq := some g.nextSeq, stage := .undoRead }
        else if x.place ∈ c.covered then { x with slotSeq := some g.nextSeq } else x),
      filter := s.filter.map (fun f =>
        if f.link = some c.entry then { f with covering := some g.nextSeq, link := none } else f),
      captureOrder := s.captureOrder.filter (fun x => x.entry ≠ c.entry),
      captures := s.captures ++
        [{ entry := c.entry, position := g.head, sequence := g.nextSeq, ordinal := n, step := .reading,
           oldBytes := none, mark := .none }] } := by
  have hord : (s.epochOf c.epoch).map (EpochRecord.plusUndo c.filterless) = _ :=
    (epochOf_mapEpoch (f := EpochRecord.plusUndo c.filterless) (fun _ => rfl)
      { s with ring := some (g.allocated s.slotsInUse), latched := s.latchedBelow (s.freeOf g) 1 } c.epoch).symm
  rw [allocateUndo, allocate_eq hg, ← filter_bne, ← undo_entries c g.nextSeq s.writeQueue hc, ← hn, hord]
  rfl

theorem entryAt_isSome_iff (s : State) (p : Nat) : (s.entryAt p).isSome = true ↔ ∃ e ∈ s.writeQueue, e.place = p := by
  simp [State.entryAt]

theorem openAllocated_iff (s : State) (n : Word) :
    s.openAllocated n = true ↔ ∃ r, s.epochOf n = some r ∧ r.openSlot ≠ none := by
  unfold State.openAllocated
  cases s.epochOf n <;> simp [Option.isSome_iff_ne_none]

theorem writeBefore_eq_false_iff (s : State) (g : Word) (p : Nat) :
    s.writeBefore g p = false ↔ ∀ x ∈ s.writeQueue, x.granule = g → p ≤ x.place := by
  simp [State.writeBefore]

/-- The start conditions of R51. -/
theorem mayStart_iff (s : State) (c : CaptureRecord) (e : WriteEntry) :
    s.mayStart c e = true ↔
      e.stage = .queued ∧ s.spaceWaiter = none ∧ s.captures.length < 4 ∧
      (∃ r, s.epochOf c.epoch = some r ∧ r.openSlot ≠ none) ∧
      (∀ x ∈ s.writeQueue, x.granule = c.granule → c.entry ≤ x.place) ∧
      (s.hold = .run ∨ s.modeInForce = .drain) := by
  have hroom : decide (s.captures.length < Config.captureCapacity) = true ↔ s.captures.length < 4 := decide_eq_true_iff
  rw [← openAllocated_iff, ← writeBefore_eq_false_iff, ← mayIssue_iff (who := .capture c.entry) rfl]
  simp [State.mayStart, hroom, and_assoc]

/-- What a waiting record leaves as it is where there is none. -/
theorem withoutWaiter_eq {s : State} (h : s.spaceWaiter = none) : { s with spaceWaiter := none } = s := by
  rw [← h]

theorem captureStart_eq {c : CaptureRecord} {rest : List CaptureRecord} {e : WriteEntry} {g : Ring} {s : State}
    (ho : s.captureOrder = c :: rest) (he : s.entryAt c.entry = some e) (hg : s.ring = some g)
    (hs : s.mayStart c e = true) :
    captureStart? s = if g.owed + 1 ≤ s.freeOf g then allocateUndo c s else some (noSpace c e s) := by
  simp only [captureStart?, ho, he, hg, hs, if_true, hasSpace_eq hg, decide_eq_true_eq]

/-- Without space a capture of the closing epoch, or one that may not wait, fails at once (R12). -/
theorem noSpace_fails {c : CaptureRecord} {s : State} (h : s.isClosing c.epoch = true ∨ s.settings.fullWaitUs = 0)
    (e : WriteEntry) : noSpace c e s = failForSpace c s := if_pos h

/-- Without space a capture begins to wait (R12). -/
theorem noSpace_waits {c : CaptureRecord} {s : State} (hc : s.isClosing c.epoch = false)
    (hw : s.settings.fullWaitUs ≠ 0) (e : WriteEntry) :
    noSpace c e s =
      { s.setEntry c.entry (fun e => { e with stage := .spaceWait }) with
        spaceWaiter := some
          { entry := c.entry, tag := e.tag, initiator := e.initiator, epoch := c.epoch,
            timer := if s.settings.fullWaitUs = Config.noWaitLimit then none
                     else some s.settings.fullWaitUs.toNat } } :=
  if_neg (by rw [hc]; exact fun h => h.elim nofun hw)

/-- Settles O46: with space the head's UNDO is allocated, and without it the head fails or begins to wait. -/
theorem capturesStartInOrderAndTakeSpace : Obligations.CapturesStartInOrderAndTakeSpace := by
  intro c e g s hg allocated hc
  have hord : (((s.epochOf c.epoch).map (EpochRecord.plusUndo c.filterless)).map (·.undoCount)).getD 0 =
      match s.epochOf c.epoch with
      | some r => r.undoCount + 1
      | none => 0 := by
    cases s.epochOf c.epoch <;> rfl
  have halloc : allocateUndo c { s with spaceWaiter := none } = some allocated :=
    allocateUndo_eq (s := { s with spaceWaiter := none }) hg hc hord
  refine ⟨mayStart_iff s c e, fun rest ho he hw hs => ?_, fun hrec => ⟨fun hspace => ?_, fun hfull => ?_⟩⟩
  · have hstart := captureStart_eq ho he hg hs
    rw [withoutWaiter_eq hw] at halloc
    refine ⟨fun hspace => ?_, fun hfull hfail => ?_, fun hfull hclosing hwait => ?_⟩
    · exact ownStep_some (hstart.trans ((if_pos hspace).trans halloc))
    · exact ownStep_some (hstart.trans ((if_neg (by omega)).trans (congrArg some (noSpace_fails hfail e))))
    · exact ownStep_some (hstart.trans ((if_neg (by omega)).trans (congrArg some (noSpace_waits hclosing hwait e))))
  · refine ownStep_some ?_
    rw [spaceGranted?, hrec]
    exact (if_pos (by simpa [hasSpace_eq hg] using hspace)).trans halloc
  · refine ownStep_none ?_
    rw [spaceGranted?, hrec]
    exact if_neg (by simpa [hasSpace_eq hg] using hfull)

/-! ### Requests of captures in progress -/

/-- The first of a list that passes a test is found. -/
theorem find?_of_first {α : Type} {p : α → Bool} {l before after : List α} {x : α} (hl : l = before ++ x :: after)
    (hx : p x = true) (hb : ∀ y ∈ before, p y = false) : l.find? p = some x :=
  List.find?_eq_some_iff_append.mpr ⟨hx, before, after, hl, fun y hy => by rw [hb y hy]; rfl⟩

/-- The first capture that has to ask and may, asks (R53, R54, R60). -/
theorem captureIssue_eq (s : State) :
    captureIssue? s =
      (s.captures.find? (fun c =>
        decide (c.mark ≠ .fault) && !s.hasOp (.capture c.entry) && s.mayIssue (.capture c.entry)
          && (s.entryAt c.entry).isSome)).bind (fun c => (s.entryAt c.entry).map (fun e => requestCapture c e s)) := by
  unfold captureIssue?
  cases s.captures.find? _ with
  | none => rfl
  | some c => cases h : s.entryAt c.entry <;> simp [h]

/-- A capture has to ask for a tag: it is not marked FAULT, has no operation, and its entry is there (R53, R54, R58). -/
def State.captureAsks (s : State) (c : Capture) : Prop :=
  c.mark ≠ .fault ∧ (∀ o ∈ s.ops, o.requester ≠ .capture c.entry) ∧ ∃ e ∈ s.writeQueue, e.place = c.entry

theorem captureTest_iff (s : State) (c : Capture) :
    (decide (c.mark ≠ .fault) && !s.hasOp (.capture c.entry) && s.mayIssue (.capture c.entry)
        && (s.entryAt c.entry).isSome) = true ↔
      s.captureAsks c ∧ (s.hold = .run ∨ s.modeInForce = .drain) := by
  rw [State.captureAsks, ← hasOp_eq_false_iff, ← entryAt_isSome_iff, ← mayIssue_iff (who := .capture c.entry) rfl]
  simp only [Bool.and_eq_true, decide_eq_true_eq, Bool.not_eq_true']
  tauto

theorem captureIssue_of_first {s : State} {before after : List Capture} {c : Capture} {e : WriteEntry}
    (hl : s.captures = before ++ c :: after) (hc : s.captureAsks c) (hb : ∀ k ∈ before, ¬s.captureAsks k)
    (he : s.entryAt c.entry = some e) (hold : s.hold = .run ∨ s.modeInForce = .drain) :
    captureIssue? s = some (requestCapture c e s) := by
  have hfind := find?_of_first hl ((captureTest_iff s c).mpr ⟨hc, hold⟩) fun k hk =>
    Bool.eq_false_iff.mpr fun h => hb k hk ((captureTest_iff s k).mp h).1
  rw [captureIssue_eq, hfind, Option.bind_some, he]
  rfl

theorem captureIssue_none {s : State}
    (h : (∀ c ∈ s.captures, ¬s.captureAsks c) ∨ (s.hold ≠ .run ∧ s.modeInForce = .freeze)) :
    captureIssue? s = none := by
  rw [captureIssue_eq, List.find?_eq_none.mpr, Option.bind_none]
  intro c hc htest
  obtain ⟨hasks, hold⟩ := (captureTest_iff s c).mp htest
  obtain hnone | ⟨hhold, hmode⟩ := h
  · exact hnone c hc hasks
  · exact hold.elim hhold (by rw [hmode]; nofun)

/-! ### Answers to captures in progress -/

theorem endCapture_eq (p : Nat) (s : State) :
    endCapture p s = { s with captures := s.captures.filter (fun k => k.entry ≠ p) } := by
  rw [endCapture, filter_bne]

section
variable {s : State} {c : Capture} {e : WriteEntry} {p : Nat}

theorem undoReadOk_eq (hc : s.captureOf p = some c) (he : s.entryAt p = some e) (data : List Beat) :
    undoReadOk p data s =
      if c.mark = .fault then withdraw e (endCapture p s)
      else (s.setCapture p (fun c => { c with step := .writing, oldBytes := some data })).setEntry p
        (fun e => { e with stage := .undoWrite }) := by
  simp only [undoReadOk, hc, he]

theorem undoSlotAcked_eq (hc : s.captureOf p = some c) (he : s.entryAt p = some e) :
    undoSlotAcked p s =
      if c.mark = .none then (endCapture p (acknowledge c.sequence s)).setEntry p (fun e => { e with stage := .ready })
      else withdraw e (endCapture p (acknowledge c.sequence s)) := by
  simp only [undoSlotAcked, hc, he]

theorem captureFailed_eq (hc : s.captureOf p = some c) (he : s.entryAt p = some e) :
    captureFailed p s = enterFaulted (addIncident (undoIncident e c) (failMemory e (endCapture p s))) := by
  simp only [captureFailed, hc, he]

end

/-- Settles O47. The requests follow from the first capture that has to ask; each answer acts through `undoReadOk`,
`undoSlotAcked` or `captureFailed`. -/
theorem captureAnswersMoveTheCapture : Obligations.CaptureAnswersMoveTheCapture := by
  constructor
  · intro g m s hg hm asks
    refine ⟨fun before after c e hl hc hb he hold => ?_, captureIssue_none⟩
    rw [captureIssue_of_first hl hc hb he hold, requestCapture]
    cases c.step with
    | reading => rfl
    | writing =>
      simp only [requestSlotWrite, State.undoSlot, slotAddress_eq hm, journalNumber_eq hg]
      rfl
  · intro t o c e data s ha ho hc he d ended failed acked
    have hd : s.dropOp o.ready = d := dropOp_eq s o.ready
    have hend (x : State) : endCapture c.entry x = ended x := endCapture_eq c.entry x
    have hcd : d.captureOf c.entry = some c := hc
    have hed : d.entryAt c.entry = some e := he
    have hok {x : State} (hk : o.kind = .undoRead) (hx : undoReadOk c.entry data d = x) :
        finalOk o data (s.dropOp o.ready) = x := by
      rw [hd, ← hx]
      simp only [finalOk, ho, hk]
    have hacked {x : State} (hk : o.kind = .slotWrite) (hx : undoSlotAcked c.entry d = x) :
        finalOk o [] (s.dropOp o.ready) = x := by
      rw [hd, ← hx]
      simp only [finalOk, ho, hk]
    have hfailed : finalFail o false (s.dropOp o.ready) = failed := by
      rw [hd]
      simp only [finalFail, ho, captureFailed_eq hcd hed, hend]
      rfl
    refine ⟨fun hk hn hm => ?_, fun hk hn hm => ?_, fun hk hn => ?_, fun _ => finalAnswer_fail ha hfailed,
      fun hk hm => ?_, fun hk hm => ?_, fun _ => finalAnswer_fail ha hfailed⟩
    · exact finalAnswer_ok ha (.inr hn) (hok hk ((undoReadOk_eq hcd hed data).trans (if_neg hm)))
    · refine finalAnswer_ok ha (.inr hn) (hok hk ((undoReadOk_eq hcd hed data).trans ((if_pos hm).trans ?_)))
      rw [hend]
    · exact finalAnswer_misfit ha (by rw [hk]; rfl) hn hfailed
    · refine finalAnswer_ok ha (.inl (by rw [hk]; rfl)) (hacked hk ((undoSlotAcked_eq hcd hed).trans ((if_pos hm).trans ?_)))
      rw [hend]
      rfl
    · refine finalAnswer_ok ha (.inl (by rw [hk]; rfl)) (hacked hk ((undoSlotAcked_eq hcd hed).trans ((if_neg hm).trans ?_)))
      rw [hend]
      rfl

end Sys2Proof.Machine
end

/-! PROOF. The closer, the markers and the anchor writer (R17 to R19, R69, R74 to R77). -/
section

namespace Sys2Proof.Machine

/-! ### The closer -/

/-- Two allocations latch SPACE_LOW as one that takes free down by 2 (R16). -/
theorem latchedBelow_twice {s t : State} (free : Nat) (hc : t.controller = s.controller)
    (hs : t.settings = s.settings) (hl : t.latched = s.latchedBelow free 1) :
    t.latchedBelow (free - 1) 1 = s.latchedBelow free 2 := by
  simp only [State.latchedBelow, hc, hs, hl, Nat.sub_sub]
  by_cases hm : s.controller = .mounting
  · simp [hm]
  · by_cases h1 : s.settings.lowSpaceSlots.toNat ≤ free - 1 ∧ free - 2 < s.settings.lowSpaceSlots.toNat
    · have : ¬free - 1 < s.settings.lowSpaceSlots.toNat := by omega
      have : s.settings.lowSpaceSlots.toNat ≤ free := by omega
      simp [*]
    · have : s.settings.lowSpaceSlots.toNat ≤ free ∧ free - 1 < s.settings.lowSpaceSlots.toNat ↔
          s.settings.lowSpaceSlots.toNat ≤ free ∧ free - 2 < s.settings.lowSpaceSlots.toNat := by omega
      simp [*]

theorem capturesRemain_iff (s : State) (n : Word) :
    s.captureOrder.any (fun r => r.epoch == n) = false ↔ ∀ r ∈ s.captureOrder, r.epoch ≠ n := by
  simp

/-- The closer once its CLOSE has been allocated, a deferred OPEN still to come (R74). -/
def State.closeAllocated (s : State) (c : ClosingRecord) (g : Ring) : State :=
  { s with
    ring := some { g.allocated s.slotsInUse with owed := g.owed - 1 }, latched := s.latchedBelow (s.freeOf g) 1,
    closing := some { c with stage := .draining, closeSlot := some g.nextSlot } }

section
variable {c : ClosingRecord} {g : Ring} {s : State}

/-- CAPTURING passes, and no OPEN is deferred: the CLOSE is allocated (R74). -/
theorem closerCapturingDone_eq (hc : s.closing = some c) (hg : s.ring = some g)
    (h : c.stage = .capturing ∧ ∀ r ∈ s.captureOrder, r.epoch ≠ c.record.number)
    (ho : ∀ a, s.active = some a → a.openSlot ≠ none) : closerCapturingDone? s = some (s.closeAllocated c g) := by
  simp only [closerCapturingDone?, hc, capturesRemain_iff, if_pos h, allocate_eq hg]
  show (match s.active with
    | some a => if a.openSlot.isNone then _ else some (s.closeAllocated c g)
    | none => some (s.closeAllocated c g)) = _
  cases ha : s.active with
  | none => rfl
  | some a => exact if_neg fun hn => ho a ha (Option.isNone_iff_eq_none.mp hn)

/-- CAPTURING passes with an OPEN deferred: it is allocated after the CLOSE (R74). -/
theorem closerCapturingDone_deferred {a : EpochRecord} (hc : s.closing = some c) (hg : s.ring = some g)
    (h : c.stage = .capturing ∧ ∀ r ∈ s.captureOrder, r.epoch ≠ c.record.number) (ha : s.active = some a)
    (ho : a.openSlot = none) : closerCapturingDone? s = some ((allocateOpen (s.closeAllocated c g)).owe (· - 1)) := by
  simp only [closerCapturingDone?, hc, capturesRemain_iff, if_pos h, allocate_eq hg]
  show (match s.active with
    | some a => if a.openSlot.isNone then some ((allocateOpen (s.closeAllocated c g)).owe (· - 1)) else _
    | none => _) = _
  rw [ha]
  exact if_pos (Option.isNone_iff_eq_none.mpr ho)

/-- The deferred OPEN takes the slot after the CLOSE, and the two together latch SPACE_LOW by one test (R16, R74). -/
theorem allocateOpen_closeAllocated {a : EpochRecord} (ha : s.active = some a) :
    allocateOpen (s.closeAllocated c g) =
      { s.closeAllocated c g with
        active := some { a with openSlot := some (g.allocated s.slotsInUse).nextSlot },
        openWrites := s.openWrites ++
          [{ epoch := a.number, origin := a.origin, slot := (g.allocated s.slotsInUse).nextSlot }],
        ring := some { (g.allocated s.slotsInUse).allocated s.slotsInUse with owed := g.owed - 1 },
        latched := s.latchedBelow (s.freeOf g) 2 } := by
  have hl : (s.closeAllocated c g).latchedBelow (s.freeOf g - 1) 1 = s.latchedBelow (s.freeOf g) 2 :=
    latchedBelow_twice _ rfl rfl rfl
  rw [allocateOpen_eq (s := s.closeAllocated c g) ha rfl, ← hl]
  rfl

end

theorem coversSeq_eq {g : Ring} {s : State} (hg : s.ring = some g) (q : Word) : s.coversSeq q = g.coversSeq q := by
  rw [State.coversSeq, hg]

theorem epochQueued_eq_false_iff (s : State) (n : Word) :
    s.epochQueued n = false ↔ ∀ e ∈ s.writeQueue, e.epoch ≠ some n := by
  simp [State.epochQueued]

/-- The closer asks for the tag of its CLOSE write under the conditions of R75. -/
theorem closeWriteIssue_eq {c : ClosingRecord} {g : Ring} {slot : SlotRef} {s : State} (hc : s.closing = some c)
    (hg : s.ring = some g) (hs : c.closeSlot = some slot) :
    closeWriteIssue? s =
      if c.stage = .draining ∧ (∀ e ∈ s.writeQueue, e.epoch ≠ some c.record.number) ∧
          g.coversSeq (slot.sequence - 1) = true ∧ s.mayIssue .closer = true ∧ s.hasOp .closer = false then
        some (requestSlotWrite .closer slot.position (s.closeWords c slot) s)
      else none := by
  simp only [closeWriteIssue?, hc, hs, epochQueued_eq_false_iff, coversSeq_eq hg]

/-- Settles O48. -/
theorem closerAllocatesAndWritesItsMarker : Obligations.CloserAllocatesAndWritesItsMarker := by
  intro c g s hc hg low latchedBy captured first draining
  refine ⟨fun h hopen => ?_, fun h a ha hopen => ?_, fun h => ?_, fun slot m hs hm => ?_⟩
  · exact ownStep_some (closerCapturingDone_eq hc hg h hopen)
  · refine ownStep_some ((closerCapturingDone_deferred hc hg h ha hopen).trans ?_)
    rw [allocateOpen_closeAllocated ha]
    rfl
  · refine ownStep_none ?_
    simp only [closerCapturingDone?, hc, capturesRemain_iff]
    exact if_neg h
  · intro drained
    have hdrained : drained ↔ _ :=
      and_congr_right' (and_congr_right' (and_congr_right' (and_congr
        (mayIssue_iff (who := .closer) rfl s).symm (hasOp_eq_false_iff s .closer).symm)))
    have hissue := closeWriteIssue_eq hc hg hs
    refine ⟨fun h => ?_, fun h => ?_⟩
    · refine ownStep_some ((hissue.trans (if_pos (hdrained.mp h))).trans ?_)
      simp only [requestSlotWrite, State.closeWords, slotAddress_eq hm, journalNumber_eq hg]
      rfl
    · exact ownStep_none (hissue.trans (if_neg fun k => h (hdrained.mpr k)))

/-! ### Markers -/

/-- An OPEN slot write has to ask for a tag (R69). -/
def State.openAsks (s : State) (w : OpenWrite) : Prop := ∀ o ∈ s.ops, o.requester ≠ .openSlot w.epoch w.slot.sequence

theorem openTest_iff (s : State) (w : OpenWrite) :
    (!s.hasOp (.openSlot w.epoch w.slot.sequence) && s.mayIssue (.openSlot w.epoch w.slot.sequence)) = true ↔
      s.openAsks w ∧ (s.hold = .run ∨ s.modeInForce = .drain) := by
  rw [State.openAsks, ← hasOp_eq_false_iff, ← mayIssue_iff (who := .openSlot w.epoch w.slot.sequence) rfl]
  simp

theorem openWriteIssue_of_first {s : State} {before after : List OpenWrite} {w : OpenWrite}
    (hl : s.openWrites = before ++ w :: after) (hw : s.openAsks w) (hb : ∀ x ∈ before, ¬s.openAsks x)
    (hc : s.controller ≠ .faulted) (hold : s.hold = .run ∨ s.modeInForce = .drain) :
    openWriteIssue? s =
      some (requestSlotWrite (.openSlot w.epoch w.slot.sequence) w.slot.position (s.openWords w) s) := by
  have hfind := find?_of_first hl ((openTest_iff s w).mpr ⟨hw, hold⟩) fun x hx =>
    Bool.eq_false_iff.mpr fun h => hb x hx ((openTest_iff s x).mp h).1
  rw [openWriteIssue?, if_neg hc, hfind]

theorem openWriteIssue_none {s : State}
    (h : (∀ w ∈ s.openWrites, ¬s.openAsks w) ∨ s.controller = .faulted ∨
      (s.hold ≠ .run ∧ s.modeInForce = .freeze)) : openWriteIssue? s = none := by
  by_cases hc : s.controller = .faulted
  · exact if_pos hc
  rw [openWriteIssue?, if_neg hc, List.find?_eq_none.mpr]
  intro w hw htest
  obtain ⟨hasks, hold⟩ := (openTest_iff s w).mp htest
  obtain hnone | hfault | ⟨hhold, hmode⟩ := h
  · exact hnone w hw hasks
  · exact hc hfault
  · exact hold.elim hhold (by rw [hmode]; nofun)

theorem endOpenWrite_eq (epoch sequence : Word) (s : State) :
    endOpenWrite epoch sequence s =
      { s with openWrites := s.openWrites.filter (fun w => ¬(w.epoch = epoch ∧ w.slot.sequence = sequence)) } := by
  rw [endOpenWrite, List.filter_congr fun w _ => ?_]
  rw [Bool.eq_iff_iff]
  simp

/-- A claim raised with a completion record may be raised before it. -/
theorem raiseClaim_addCompletion (k : Claim) (c : Completion) (s : State) :
    raiseClaim k (addCompletion c s) = addCompletion c (raiseClaim k s) := by
  unfold addCompletion raiseClaim
  cases s.completions with
  | nil => rfl
  | cons oldest rest =>
    simp only []
    split <;> rfl

/-- The commit point (R76). -/
theorem closeOk_eq {c : ClosingRecord} {slot : SlotRef} {s : State} (hc : s.closing = some c)
    (hs : c.closeSlot = some slot) :
    closeOk s =
      addCompletion c.committed
        { s with
          ring := s.ring.map (Ring.acknowledged slot.sequence), lastCommitted := some c.record.number,
          closing := some { c with stage := .reclaiming },
          claims := s.claims ++ [closerClaim s.slotsInUse slot] } := by
  simp only [closeOk, hc, hs, raiseClaim_addCompletion]
  rfl

/-- Settles O50. -/
theorem markerAnswersMakeEpochsDurable : Obligations.MarkerAnswersMakeEpochsDurable := by
  constructor
  · intro g m s hg hm asks
    refine ⟨fun before after w hl hw hb hc hold => ?_, openWriteIssue_none⟩
    rw [openWriteIssue_of_first hl hw hb hc hold, requestSlotWrite, State.openWords, slotAddress_eq hm,
      journalNumber_eq hg]
    cases w.origin <;> rfl
  · intro t o s ha hk d marker
    have hd : s.dropOp o.ready = d := dropOp_eq s o.ready
    have fit : o.kind.reads = false ∨ ([] : List Beat).length = o.beats := .inl (by rw [hk]; rfl)
    refine ⟨fun epoch sequence ho => ?_, fun c slot ho hc hs => ?_⟩
    · intro closed
      have hend : endOpenWrite epoch sequence d = closed := endOpenWrite_eq epoch sequence d
      refine ⟨finalAnswer_ok ha fit ?_, finalAnswer_fail ha ?_⟩
      · rw [hd, finalOk, ho]
        simp only [openOk, hend]
        rfl
      · rw [hd, finalFail, ho]
        simp only [openFailed, hend]
        rfl
    · have hcd : d.closing = some c := hc
      refine ⟨finalAnswer_ok ha fit ?_, finalAnswer_fail ha ?_⟩
      · rw [hd, finalOk, ho]
        exact closeOk_eq hcd hs
      · rw [hd, finalFail, ho]
        simp only [closeFailed, hcd, hs]
        rfl

end Sys2Proof.Machine
end

/-! PROOF. The anchor writer (R5, R17 to R19, R77, R96, R109, R116 to R118). -/
section

namespace Sys2Proof.Machine

/-! ### The issue of a claim -/

/-- The claims in the order in which they are tried: the closer's first (R17). -/
def State.claimOrder (s : State) : List Claim :=
  s.claims.filter (fun c => c.claimant == .closer) ++ s.claims.filter (fun c => c.claimant != .closer)

theorem mem_claimOrder {s : State} {c : Claim} : c ∈ s.claimOrder ↔ c ∈ s.claims := by
  simp only [State.claimOrder, List.mem_append, List.mem_filter, ← and_or_left, bne_iff_ne, beq_iff_eq, em, and_true]

theorem anchorBusy_iff (s : State) : s.anchorBusy = true ↔ ∃ o ∈ s.ops, o.kind = .anchorWrite := by
  simp [State.anchorBusy]

/-- The request that the issue of a claim makes (R17, R18). -/
def State.requestAnchor (s : State) (c : Claim) : State :=
  request .anchorWrite (.anchor (s.anchorWriteOf c)) (s.slotAddress (s.anchorWriteOf c).copy.slot) 8 (fullMasks 8)
    (beatsOfWords (s.anchorWords (s.anchorWriteOf c))) s

theorem anchorClaimIssue_eq (s : State) :
    anchorClaimIssue? s =
      if s.anchorBusy then none else (s.claimOrder.find? s.claimReady).map s.requestAnchor := by
  unfold anchorClaimIssue?
  split
  · rfl
  · show (match s.claimOrder.find? s.claimReady with
      | none => none
      | some c => some (s.requestAnchor c)) = _
    cases s.claimOrder.find? s.claimReady <;> rfl

/-- A closer's claim may be issued in a drain hold, and waits for nothing else (R17, R78). -/
theorem claimReady_closer {s : State} {c : Claim} (hc : c.claimant = .closer) :
    s.claimReady c = true ↔ s.hold = .run ∨ s.modeInForce = .drain := by
  have hw : (Requester.anchor (s.anchorWriteOf c)).asksInDrain = true := decide_eq_true hc
  rw [← mayIssue_iff hw]
  simp [State.claimReady, hc]

/-- Any other claim is issued in no hold, and a rollback's waits for the closer to be NONE (R17, R99, R119). -/
theorem claimReady_other {s : State} {c : Claim} (hc : c.claimant ≠ .closer) :
    s.claimReady c = true ↔ s.hold = .run ∧ (c.claimant = .rollback → s.closing = none) := by
  have hw : (Requester.anchor (s.anchorWriteOf c)).asksInDrain = false := decide_eq_false hc
  rw [← mayIssue_iff_run hw]
  simp [State.claimReady, imp_iff_not_or]

/-- In a list that begins with one claim's copies, that claim is found if it may be issued. -/
theorem find?_of_only {α : Type} {p : α → Bool} {l : List α} {x : α} (hx : x ∈ l) (hl : ∀ y ∈ l, y = x)
    (hp : p x = true) : l.find? p = some x := by
  cases l with
  | nil => cases hx
  | cons y l =>
    rw [hl y List.mem_cons_self, List.find?_cons_of_pos hp]

theorem find?_claimOrder_closer {s : State} {c : Claim} (hmem : c ∈ s.claims) (hc : c.claimant = .closer)
    (honly : ∀ x ∈ s.claims, x.claimant = .closer → x = c) (hready : s.claimReady c = true) :
    s.claimOrder.find? s.claimReady = some c := by
  rw [State.claimOrder, List.find?_append, find?_of_only (x := c) _ _ hready]
  · rfl
  · simp [hmem, hc]
  · intro x hx
    obtain ⟨hx, hcloser⟩ := List.mem_filter.mp hx
    exact honly x hx (by simpa using hcloser)

theorem find?_claimOrder_other {s : State} {c : Claim} (hmem : c ∈ s.claims) (honly : ∀ x ∈ s.claims, x = c)
    (hready : s.claimReady c = true) : s.claimOrder.find? s.claimReady = some c :=
  find?_of_only (mem_claimOrder.mpr hmem) (fun x hx => honly x (mem_claimOrder.mp hx)) hready

theorem anchorTarget_named {c : Claim} {t : Copy × Word} (h : c.target = some t) (s : State) :
    s.anchorTarget c = t := by
  rw [State.anchorTarget, h]

/-- Without a copy named the write goes to the copy not in force, with the generation after its own (R18). -/
theorem anchorTarget_other {c : Claim} {g : Ring} {s : State} {copy : Copy} {n : Word} (h : c.target = none)
    (hg : s.ring = some g) (hi : g.inForce = some (copy, n)) : s.anchorTarget c = (copy.other, n + 1) := by
  rw [State.anchorTarget, h, hg, Option.bind_some, hi]

/-- The contents of R5, in the ring and the geometry in use, with the epoch numbers of the claim or else of the moment. -/
theorem anchorWords_eq {g : Ring} {m : Geometry} {s : State} (hg : s.ring = some g) (hm : s.geometry = some m)
    (w : AnchorWrite) :
    s.anchorWords w =
      anchorSlot g.journal w.generation (BitVec.ofNat 32 m.slots) (BitVec.ofNat 32 w.tail) w.tailSeq
        (w.numbers.getD (s.nextEpoch.getD 0, s.lastCommitted.getD 0)).1
        (w.numbers.getD (s.nextEpoch.getD 0, s.lastCommitted.getD 0)).2 := by
  rw [State.anchorWords, hg, hm]
  cases w.numbers <;> rfl

/-! ### The grant of an anchor write's tag -/

theorem leaveSafe_eq (s : State) : leaveSafe s = { s with hold := if s.hold = .safe then .holding else s.hold } := by
  unfold leaveSafe
  split <;> rfl

/-- A grant changes nothing at the anchor writer: the record's contents are sent (R144, R153). -/
theorem grant_anchor {o : Op} {w : AnchorWrite} (ho : o.requester = .anchor w) (t : DownTag) (s : State) :
    grant o t s = sendOp o t 0 s := by
  rw [grant, requesterIssued, ho]

/-- Settles O49: the claim whose turn it is heads those tried, and its contents are those of its issue. -/
theorem anchorClaimsAreServedInTurn : Obligations.AnchorClaimsAreServedInTurn := by
  intro c g m s hg hm target turn
  refine ⟨fun hfree hmem hturn t ht => ?_, fun h => ?_, fun w o x ho hw => ?_⟩
  · intro w numbers
    have hfind : s.claimOrder.find? s.claimReady = some c := by
      obtain ⟨hc, honly, hold⟩ | ⟨hc, honly, hrun, hroll⟩ := hturn
      · exact find?_claimOrder_closer hmem hc honly ((claimReady_closer hc).mpr hold)
      · exact find?_claimOrder_other hmem honly ((claimReady_other hc).mpr ⟨hrun, hroll⟩)
    have hidle : ¬s.anchorBusy = true := fun h => by
      obtain ⟨o, ho, hk⟩ := (anchorBusy_iff s).mp h
      exact hfree o ho hk
    have htarget : s.anchorTarget c = t := by
      cases hct : c.target with
      | some t' => exact (anchorTarget_named hct s).trans (by simpa [target, hct] using ht)
      | none =>
        rcases hi : g.inForce with _ | ⟨copy, n⟩
        · simp [target, hct, hi] at ht
        · refine (anchorTarget_other hct hg hi).trans ?_
          cases copy <;> simpa [target, hct, hi, Copy.other] using ht
    have hwrite : s.anchorWriteOf c = w := by rw [State.anchorWriteOf, htarget]
    have hnumbers : c.numbers.getD (s.nextEpoch.getD 0, s.lastCommitted.getD 0) = numbers := by
      simp only [numbers]
      cases c.numbers <;> rfl
    have hplace : s.slotAddress w.copy.slot = m.base + (match t.1 with | .a => 0 | .b => 64) := by
      rw [slotAddress_eq hm]
      show m.base + BitVec.ofNat 32 (64 * t.1.slot) = _
      cases t.1 <;> rfl
    refine ownStep_some ?_
    rw [anchorClaimIssue_eq, if_neg hidle, hfind, Option.map_some, State.requestAnchor, hwrite, hplace,
      anchorWords_eq hg hm]
    show some (request _ _ _ _ _ (beatsOfWords (anchorSlot _ _ _ _ _
      (c.numbers.getD (s.nextEpoch.getD 0, s.lastCommitted.getD 0)).1
      (c.numbers.getD (s.nextEpoch.getD 0, s.lastCommitted.getD 0)).2)) s) = _
    rw [hnumbers]
    rfl
  · refine ownStep_none ?_
    rw [anchorClaimIssue_eq]
    split
    · rfl
    · rename_i hidle
      rw [List.find?_eq_none.mpr, Option.map_none]
      intro x hx hready
      rw [mem_claimOrder] at hx
      have hmay : s.hold = .run ∨ x.claimant = .closer ∧ s.modeInForce = .drain := by
        by_cases hc : x.claimant = .closer
        · exact ((claimReady_closer hc).mp hready).imp_right fun h => ⟨hc, h⟩
        · exact .inl ((claimReady_other hc).mp hready).1
      obtain hbusy | hempty | ⟨hclosing, hroll⟩ | ⟨hhold, hmode⟩ | ⟨hhold, hnone⟩ := h
      · exact hidle ((anchorBusy_iff s).mpr hbusy)
      · rw [hempty] at hx
        cases hx
      · have hx' := hroll x hx
        exact hclosing (((claimReady_other (by rw [hx']; nofun)).mp hready).2 hx')
      · obtain hrun | ⟨-, hdrain⟩ := hmay
        · exact hhold hrun
        · rw [hmode] at hdrain
          cases hdrain
      · exact hmay.elim hhold fun h => hnone x hx h.1
  · rw [grant_anchor ho, sendOp, leaveSafe_eq]
    rfl

/-! ### The answers to an anchor write -/

theorem endClaim_eq (k : Claimant) (s : State) :
    endClaim k s = { s with claims := s.claims.filter (fun c => c.claimant ≠ k) } := by
  rw [endClaim, filter_bne]

theorem mountSpaceTest_eq {g : Ring} {s : State} (hg : s.ring = some g) :
    mountSpaceTest s =
      { s with
        latched := if s.freeOf g < s.settings.lowSpaceSlots.toNat then s.latched ||| 0x04#6 else s.latched } := by
  unfold mountSpaceTest
  split
  · rename_i r hr
    obtain rfl : r = g := Option.some.inj (hr.symm.trans hg)
    split <;> rfl
  · rename_i hr
    rw [hg] at hr
    cases hr

/-- The completion of a mount, field by field (R109, R117, R118). -/
theorem completion_eq (m : Mount) (o : LongOutcome) :
    m.completion o =
      { op := (match m.kind with | .format => .format | .recover => .recover), trigger := m.trigger,
        epoch := (match m.kind with | .format => none | .recover => m.openEpoch.map (·.1)), outcome := o,
        countA := (match m.kind with | .format => 0 | .recover => m.scanned),
        countB := (match m.kind with | .format => 0 | .recover => m.restored), discarded := 0 } := by
  unfold Mount.completion
  cases m.kind <;> rfl

/-- A mount succeeds (R16, R109, R117). -/
theorem completeMount_eq {m : Mount} {g : Ring} {s : State} (hm : s.mount = some m) (hg : s.ring = some g)
    (o : LongOutcome) (next last : Word) :
    completeMount o next last s =
      addCompletion (m.completion o)
        { s with
          mount := none, controller := .idle, nextEpoch := some next, lastCommitted := some last,
          latched := if s.freeOf g < s.settings.lowSpaceSlots.toNat then s.latched ||| 0x04#6 else s.latched } := by
  rw [completeMount, hm]
  refine congrArg (addCompletion _) ?_
  exact mountSpaceTest_eq hg

theorem anchorFailed_mount {w : AnchorWrite} (hc : w.claimant = .mount) (s : State) :
    anchorFailed w s = endMount .failed (addIncident (anchorIncident w) (endClaim w.claimant s)) := by
  simp only [anchorFailed, hc]

theorem anchorFailed_other {w : AnchorWrite} (hc : w.claimant ≠ .mount) (s : State) :
    anchorFailed w s = enterFaulted (addIncident (anchorIncident w) (endClaim w.claimant s)) := by
  cases h : w.claimant with
  | mount => exact absurd h hc
  | closer | rollback => simp only [anchorFailed, h]

section
variable {t : DownTag} {o : Op} {w : AnchorWrite} {g : Ring} {s r : State}

/-- The OK of an anchor write moves the tail, ends the claim and reports to the claimant (R19). -/
theorem exec_anchorWriteAnswer_ok (ha : s.answering t o) (hk : o.kind = .anchorWrite) (ho : o.requester = .anchor w)
    (hg : s.ring = some g)
    (hr : anchorReport w
      { s with
        ops := s.ops.filter (fun x => x.ready ≠ o.ready), claims := s.claims.filter (fun c => c.claimant ≠ w.claimant),
        ring := some (g.anchored w) } = r) :
    exec (.anchorWriteAnswer t .ok) s = .next (settle r) := by
  refine finalAnswer_ok ha (.inl (by rw [hk]; rfl)) ?_
  rw [← hr, finalOk, ho]
  simp only [anchorOk, endClaim_eq, dropOp_eq, State.setRing, hg]
  rfl

theorem exec_anchorWriteAnswer_fail (ha : s.answering t o) (ho : o.requester = .anchor w)
    (hr : anchorFailed w (s.dropOp o.ready) = r) : exec (.anchorWriteAnswer t .fail) s = .next (settle r) :=
  finalAnswer_fail ha (by rw [← hr, finalFail, ho])

end

theorem anchorReport_format {w : AnchorWrite} {m : Mount} {s : State} (hc : w.claimant = .mount)
    (hm : s.mount = some m) (hk : m.kind = .format) : anchorReport w s = mountAnchorOk s := by
  simp only [anchorReport, hc, hm, hk]

theorem anchorReport_recover {w : AnchorWrite} {m : Mount} {s : State} (hc : w.claimant = .mount)
    (hm : s.mount = some m) (hk : m.kind = .recover) : anchorReport w s = recoverAnchorOk w s := by
  simp only [anchorReport, hc, hm, hk]

/-- FORMAT goes on to anchor A (R109). -/
theorem mountAnchorOk_writingB {m : Mount} {s : State} (hm : s.mount = some m) (hp : m.phase = .writingB) :
    mountAnchorOk s = raiseClaim (formatClaim .a 2#32) { s with mount := some { m with phase := .writingA } } := by
  simp only [mountAnchorOk, hm, hp, State.setMount, Option.map_some]

theorem mountAnchorOk_writingA {m : Mount} {s : State} (hm : s.mount = some m) (hp : m.phase = .writingA) :
    mountAnchorOk s = completeMount .formatted 1#32 0#32 s := by
  simp only [mountAnchorOk, hm, hp]

/-- Settles O51: the claimant decides what the answer does beyond moving the tail. -/
theorem anchorAnswersMoveTheTail : Obligations.AnchorAnswersMoveTheTail := by
  intro t o w g s ha hk ho hg moved d r failed mounted
  have hok {x : State} (hx : anchorReport w r = x) : exec (.anchorWriteAnswer t .ok) s = .next (settle x) :=
    exec_anchorWriteAnswer_ok ha hk ho hg hx
  have hfail {x : State} (hx : anchorFailed w (s.dropOp o.ready) = x) :
      exec (.anchorWriteAnswer t .fail) s = .next (settle x) := exec_anchorWriteAnswer_fail ha ho hx
  have hd : endClaim w.claimant (s.dropOp o.ready) = d := by rw [endClaim_eq, dropOp_eq]
  have hfailed : addIncident (anchorIncident w) (endClaim w.claimant (s.dropOp o.ready)) = failed := by
    rw [hd]
    rfl
  refine ⟨fun hc => ⟨hok ?_, hfail ?_⟩, fun hc => ⟨fun b hb => hok ?_, hfail ?_⟩, fun hc m hm => ?_⟩
  · rw [anchorReport, hc]
  · rw [anchorFailed_other (by rw [hc]; nofun), hfailed]
  · have hbr : r.rollback = some b := hb
    simp only [anchorReport, hc, rollbackComplete, hbr]
    rfl
  · rw [anchorFailed_other (by rw [hc]; nofun), hfailed]
  · have hmr : r.mount = some m := hm
    have hend : exec (.anchorWriteAnswer t .fail) s = .next (settle (endMount .failed failed)) :=
      hfail (by rw [anchorFailed_mount hc, hfailed])
    have hmounted (outcome : LongOutcome) (next last : Word) :
        completeMount outcome next last r = mounted m outcome next last := by
      rw [completeMount_eq hmr rfl, completion_eq]
      rfl
    refine ⟨fun hkind next last hn => hok ?_, fun hkind hp => hok ?_, fun hkind hp => hok ?_, hend, hend⟩
    · rw [anchorReport_recover hc hmr hkind]
      simp only [recoverAnchorOk, hmr, hn, hmounted]
      cases m.openEpoch <;> simp
    · rw [anchorReport_format hc hmr hkind, mountAnchorOk_writingA hmr hp, hmounted]
      rfl
    · rw [anchorReport_format hc hmr hkind, mountAnchorOk_writingB hmr hp]
      rfl

end Sys2Proof.Machine
end

/-! PROOF. The rollback's requests and their answers (R91 to R95, R99). -/
section

namespace Sys2Proof.Machine

/-! ### A slot read back in a replay -/

/-- The tests of R92, spelled out. -/
theorem undoSlotOk_iff {m : Geometry} {s : State} (hm : s.geometry = some m) (ws : List Word) (journal epoch : Word)
    (c : Cursor) :
    s.undoSlotOk ws journal epoch c = true ↔
      validCheck ws = true ∧ byteOf (ws.getD 0 0) 0 = 2 ∧ ws.getD 1 0 = journal ∧ ws.getD 2 0 = c.sequence ∧
      ws.getD 3 0 = epoch ∧ ws.getD 5 0 = BitVec.ofNat 32 c.ordinal ∧ (ws.getD 4 0).toNat % 32 = 0 ∧
      inJournalArea m.base m.slots (ws.getD 4 0) = false := by
  simp only [State.undoSlotOk, hm, Option.map_some, Option.getD_some, slotsInUse_eq hm, Bool.and_eq_true,
    decide_eq_true_eq, Bool.not_eq_true', and_assoc]
  rfl

/-! ### Requests -/

section
variable {s : State} {b : Rollback}

/-- The rollback asks where no hold keeps it back and it has no operation (R99). -/
theorem rollbackMayAsk_iff (s : State) :
    (s.mayIssue .rollback = true ∧ s.hasOp .rollback = false) ↔
      s.hold = .run ∧ ∀ o ∈ s.ops, o.requester ≠ .rollback := by
  rw [mayIssue_iff_run (who := .rollback) rfl, hasOp_eq_false_iff]

theorem rollbackIssue_none (hb : s.rollback = some b) (h : s.hold ≠ .run ∨ ∃ o ∈ s.ops, o.requester = .rollback) :
    rollbackIssue? s = none := by
  have hnot : ¬(s.mayIssue .rollback = true ∧ s.hasOp .rollback = false) := by
    rw [rollbackMayAsk_iff]
    rintro ⟨hrun, hno⟩
    obtain hhold | ⟨o, ho, hr⟩ := h
    · exact hhold hrun
    · exact hno o ho hr
  simp only [rollbackIssue?, hb, if_neg hnot]

theorem rollbackIssue_read {c : Cursor} (hb : s.rollback = some b) (hrun : s.hold = .run)
    (hno : ∀ o ∈ s.ops, o.requester ≠ .rollback) (hp : b.phase = .replaying) (hs : b.step = some .reading)
    (hc : b.cursor = some c) : rollbackIssue? s = some (requestSlotRead .rollback c.position s) := by
  simp only [rollbackIssue?, hb, if_pos ((rollbackMayAsk_iff s).mpr ⟨hrun, hno⟩), hp, hs, hc]

theorem rollbackIssue_abandon {slot : SlotRef} (hb : s.rollback = some b) (hrun : s.hold = .run)
    (hno : ∀ o ∈ s.ops, o.requester ≠ .rollback) (hp : b.phase = .abandoning) (hs : b.abandonSlot = some slot) :
    rollbackIssue? s = some (requestSlotWrite .rollback slot.position (s.abandonWords b slot) s) := by
  simp only [rollbackIssue?, hb, if_pos ((rollbackMayAsk_iff s).mpr ⟨hrun, hno⟩), hp, hs]

/-! ### Answers -/

/-- A slot read back is kept and waits, or is refused by the tests of R92. -/
theorem rollbackReadOk_eq {c : Cursor} (hb : s.rollback = some b) (hc : b.cursor = some c) (ws : List Word) :
    rollbackReadOk ws s =
      if s.undoSlotOk ws s.journalNumber b.epoch c then
        { s with rollback := some { b with contents := some ws, step := some .waiting } }
      else
        enterFaulted (addIncident (slotIncident .slotInvalid b.epoch c.sequence)
          { s with rollback := some { b with contents := some ws } }) := by
  simp only [rollbackReadOk, hb, hc, State.setRollback, Option.map_some]

/-- The ABANDON takes the head of the ring, and M falls by 1 (R94). -/
theorem rollbackAbandon_eq {g : Ring} (hb : s.rollback = some b) (hg : s.ring = some g) :
    rollbackAbandon s =
      { s with
        ring := some { g.allocated s.slotsInUse with owed := g.owed - 1 }, latched := s.latchedBelow (s.freeOf g) 1,
        rollback := some { b with
          phase := .abandoning, cursor := none, step := none, contents := none, abandonSlot := some g.nextSlot } } := by
  rw [rollbackAbandon, allocate_eq hg]
  simp only [State.setRollback, State.owe, State.setRing, hb, Option.map_some]
  rfl

theorem rollbackRestoreOk_eq {c : Cursor} (hb : s.rollback = some b) (hc : b.cursor = some c) :
    rollbackRestoreOk s =
      if c.ordinal ≤ 1 then rollbackAbandon { s with rollback := some { b with restored := b.restored + 1 } }
      else
        { s with
          rollback := some { b with
            restored := b.restored + 1, cursor := some (c.back s.slotsInUse), contents := none,
            step := some .reading } } := by
  simp only [rollbackRestoreOk, hb, hc, State.setRollback, Option.map_some]

/-- The ABANDON is durable, and the rollback's claim is raised (R95). -/
theorem rollbackAbandonOk_eq {g : Ring} {slot : SlotRef} (hb : s.rollback = some b) (hg : s.ring = some g)
    (hs : b.abandonSlot = some slot) :
    rollbackAbandonOk s =
      { s with
        ring := some (g.acknowledged slot.sequence), rollback := some { b with phase := .anchoring },
        claims := s.claims ++
          [{ claimant := .rollback, tail := g.head, tailSeq := g.nextSeq, numbers := none, target := none }] } := by
  simp only [rollbackAbandonOk, hb, hg, hs, acknowledge, State.setRing, State.setRollback, raiseClaim, Option.map_some]

theorem rollbackOpFailed_marker {o : Op} {slot : SlotRef} (hb : s.rollback = some b) (hk : o.kind = .slotWrite)
    (hs : b.abandonSlot = some slot) :
    rollbackOpFailed o s = enterFaulted (addIncident (slotIncident .markerFailed b.epoch slot.sequence) s) := by
  simp only [rollbackOpFailed, hb, hk, hs, Option.map_some, Option.getD_some]

theorem rollbackOpFailed_replay {o : Op} {c : Cursor} (hb : s.rollback = some b) (hk : o.kind ≠ .slotWrite)
    (hc : b.cursor = some c) :
    rollbackOpFailed o s = enterFaulted (addIncident (restoreIncident o.address b.epoch c.sequence) s) := by
  simp only [rollbackOpFailed, hb, Rollback.cursorSeq, hc, Option.map_some, Option.getD_some]

end

/-- Settles O53. -/
theorem rollbackAnswersReplayTheEpoch : Obligations.RollbackAnswersReplayTheEpoch := by
  constructor
  · intro b g m s hb hg hm place
    refine ⟨fun hrun hno => ⟨fun c hp hs hc => ?_, fun slot hp hs => ?_⟩, rollbackIssue_none hb⟩
    · rw [rollbackIssue_read hb hrun hno hp hs hc, requestSlotRead, slotAddress_eq hm]
    · rw [rollbackIssue_abandon hb hrun hno hp hs, requestSlotWrite, slotAddress_eq hm, State.abandonWords,
        journalNumber_eq hg]
      rfl
  · intro t o b g m s ha ho hb hg hm d faulted
    have hd : s.dropOp o.ready = d := dropOp_eq s o.ready
    have hbd : d.rollback = some b := hb
    have hgd : d.ring = some g := hg
    have hok {data : List Beat} {x : State} (hx : rollbackOpOk o data d = x) :
        finalOk o data (s.dropOp o.ready) = x := by rw [hd, finalOk, ho, hx]
    have hfail {x : State} (hx : rollbackOpFailed o d = x) : finalFail o false (s.dropOp o.ready) = x := by
      rw [hd, finalFail, ho, hx]
    refine ⟨fun c data hc => ?_, fun slot hk hs => ⟨?_, ?_⟩⟩
    · intro ws good kept
      have hgood : good ↔ d.undoSlotOk ws d.journalNumber b.epoch c = true := by
        rw [journalNumber_eq hgd]
        exact (undoSlotOk_iff (s := d) hm ws g.journal b.epoch c).symm
      have hread (hk : o.kind = .slotRead) : rollbackOpOk o data d = _ :=
        (by rw [rollbackOpOk, hk] : _ = rollbackReadOk ws d).trans (rollbackReadOk_eq hbd hc ws)
      have hrestore (hk : o.kind = .restoreWrite) : rollbackOpOk o [] d = _ :=
        (by rw [rollbackOpOk, hk] : _ = rollbackRestoreOk d).trans (rollbackRestoreOk_eq hbd hc)
      refine ⟨fun hk hn h => ?_, fun hk hn h => ?_, fun hk => ?_, fun hk h => ?_, fun hk h => ?_, fun hk => ?_⟩
      · exact finalAnswer_ok ha (.inr hn) (hok ((hread hk).trans (if_pos (hgood.mp h))))
      · exact finalAnswer_ok ha (.inr hn) (hok ((hread hk).trans (if_neg fun k => h (hgood.mpr k))))
      · exact finalAnswer_fail ha (hfail (rollbackOpFailed_replay hbd (by rw [hk]; nofun) hc))
      · exact finalAnswer_ok ha (.inl (by rw [hk]; rfl)) (hok ((hrestore hk).trans (if_neg (by omega))))
      · exact finalAnswer_ok ha (.inl (by rw [hk]; rfl))
          (hok ((hrestore hk).trans ((if_pos h).trans (rollbackAbandon_eq (s := { d with rollback := _ }) rfl hgd))))
      · exact finalAnswer_fail ha (hfail (rollbackOpFailed_replay hbd (by rw [hk]; nofun) hc))
    · refine finalAnswer_ok ha (.inl (by rw [hk]; rfl)) (hok ?_)
      rw [rollbackOpOk, hk]
      exact rollbackAbandonOk_eq hbd hgd hs
    · exact finalAnswer_fail ha (hfail (rollbackOpFailed_marker hbd hk hs))

end Sys2Proof.Machine
end

/-! PROOF. Mounts: their start and end, the scan and its head (R20, R83, R104, R111 to R116, R160). -/
section

namespace Sys2Proof.Machine

/-! ### Start and end -/

theorem journaledQueued_eq_false_iff (s : State) :
    s.writeQueue.any (fun e => e.cls == .journaled) = false ↔ ∀ e ∈ s.writeQueue, e.cls ≠ .journaled := by
  simp

theorem blocksMount_eq_false_iff (s : State) :
    s.ops.any (·.blocksMount) = false ↔
      ∀ o ∈ s.ops, o.flying = true → o.kind ≠ .slotWrite ∧ o.kind ≠ .anchorWrite ∧ o.kind ≠ .restoreWrite := by
  simp [Op.blocksMount, and_assoc]

/-- A mount ends without mounting (R117, R118). -/
theorem endMount_eq {m : Mount} {s : State} (hm : s.mount = some m) (o : LongOutcome) :
    endMount o s =
      addCompletion (m.completion o)
        { s with mount := none, controller := .unmounted, ring := none, geometry := none, claims := [] } := by
  rw [endMount, hm]

/-- Settles O56. -/
theorem mountsStartFromFaultedAndFailToUnmounted : Obligations.MountsStartFromFaultedAndFailToUnmounted := by
  constructor
  · intro q s hq clear m started
    have hstart : mountFromFaulted? s = if clear then some started else none := by
      simp only [mountFromFaulted?, hq, journaledQueued_eq_false_iff, blocksMount_eq_false_iff]
      rfl
    exact ⟨fun h => ownStep_some (hstart.trans (if_pos h)), fun h => ownStep_none (hstart.trans (if_neg h))⟩
  · intro m outcome s hm
    refine (endMount_eq hm outcome).trans (congrArg (addCompletion · _) ?_)
    unfold Mount.completion
    cases m.kind <;> rfl

/-! ### Epoch numbers -/

theorem later_asymm {a b : Word} (h : later a b = true) : later b a = false := by
  simp only [later, Bool.and_eq_true, decide_eq_true_eq, Bool.and_eq_false_iff, decide_eq_false_iff_not] at h ⊢
  bv_omega

theorem later_irrefl (a : Word) : later a a = false := by
  simp [later]

theorem recoveredNextEpoch_of_later {a n : Word} (h : later (epochAfter n) a = true) :
    recoveredNextEpoch a (some n) = epochAfter n := if_pos h

theorem recoveredNextEpoch_of_not_later {a n : Word} (h : later a (epochAfter n) = true ∨ a = epochAfter n) :
    recoveredNextEpoch a (some n) = a := by
  have hnot : later (epochAfter n) a = false := by
    obtain h | rfl := h
    · exact later_asymm h
    · exact later_irrefl _
  simp only [recoveredNextEpoch, hnot, Bool.false_eq_true, if_false, if_pos h]

/-! ### The scan's head -/

section
variable {s : State} {m : Mount} {c : Chosen} {g : Ring} {q : Geometry}

/-- ANCHORING is entered with the claim of R116. -/
theorem recoverAnchor_eq (hm : s.mount = some m) (hg : s.ring = some g) (hc : m.chosen = some c) :
    recoverAnchor s =
      { s with
        mount := some { m with phase := .anchoring },
        claims := s.claims ++
          [{ claimant := .mount, tail := g.head, tailSeq := g.nextSeq, target := none,
             numbers := some (recoveredNextEpoch c.nextEpoch m.highest, m.lastClose.getD c.lastCommitted) }] } := by
  simp only [recoverAnchor, hm, hg, recoverClaim, hc, raiseClaim, State.setMount, Option.map_some, Option.getD_some]

/-- The recovery's ABANDON takes the head of the ring, without a test of R16 in MOUNTING (R115). -/
theorem recoverAbandon_eq (hm : s.mount = some m) (hg : s.ring = some g) (hq : s.geometry = some q)
    (hc : s.controller = .mounting) :
    recoverAbandon s =
      { s with
        ring := some { g.allocated q.slots with owed := g.owed - 1 },
        mount := some { m with
          phase := .abandoning, cursor := none, step := none, contents := none, abandonSlot := some g.nextSlot } } := by
  have hl : s.latchedBelow (s.freeOf g) 1 = s.latched := if_neg fun h => h.1 hc
  rw [recoverAbandon, allocate_eq hg, hl, slotsInUse_eq hq]
  simp only [State.setMount, State.owe, State.setRing, hm, Option.map_some]
  rfl

/-- The ring at the scan head (R113). -/
def Chosen.ringAt (c : Chosen) (head : SlotRef) (slots : Nat) : Ring :=
  setUpRing c.journal (some (c.copy, c.generation)) head.position (head.sequence + countWord (slots - 2))

/-- The mount record at the scan head (R113). -/
def Mount.stoppedAt (m : Mount) (head : SlotRef) : Mount :=
  { m with scanHead := some head, openEpoch := m.shape.openEpoch, scanCursor := none }

/-- The state with the ring set up at the scan head and so many markers owed (R113, R114). -/
def State.scanStopped (s : State) (m : Mount) (c : Chosen) (head : SlotRef) (slots owed : Nat) : State :=
  { s with
    ring := some { c.ringAt head slots with owed := owed }, spaceWaiter := none, mount := some (m.stoppedAt head) }

theorem scanStops_clean (hm : s.mount = some m) (hc : m.chosen = some c) (hq : s.geometry = some q)
    (ho : m.shape.openEpoch = none) (head : SlotRef) :
    scanStops head s = recoverAnchor (s.scanStopped m c head q.slots 0) := by
  simp only [scanStops, hm, hc, ho, capacity_eq hq, State.setMount, Option.map_some]
  simp only [State.scanStopped, Mount.stoppedAt, ho, hc]
  rfl

theorem scanStops_open {e : Word} {n : Nat} (hm : s.mount = some m) (hc : m.chosen = some c)
    (hq : s.geometry = some q) (ho : m.shape.openEpoch = some (e, n)) (head : SlotRef) :
    scanStops head s =
      if n = 0 then recoverAbandon (s.scanStopped m c head q.slots 1)
      else
        { s.scanStopped m c head q.slots 1 with
          mount := some { m.stoppedAt head with
            phase := .replaying, step := some .reading,
            cursor := some { position := prevPosition q.slots head.position, sequence := head.sequence - 1,
                             ordinal := n } } } := by
  simp only [scanStops, hm, hc, ho, capacity_eq hq, slotsInUse_eq hq, State.setMount, State.owe, State.setRing,
    Option.map_some]
  simp only [State.scanStopped, Mount.stoppedAt, ho, hc]
  rfl

end

/-- Settles O59. -/
theorem scanHeadSetsUpTheRing : Obligations.ScanHeadSetsUpTheRing := by
  intro head m c q s hm hc hq hmounting first ring stopped base
  refine ⟨fun ho => ?_, fun e ho => ?_, fun e k ho => ?_, fun a n => ⟨rfl, ?_⟩⟩
  · exact (scanStops_clean hm hc hq ho head).trans
      (recoverAnchor_eq (s := s.scanStopped m c head q.slots 0) rfl rfl hc)
  · exact (scanStops_open hm hc hq ho head).trans
      (recoverAbandon_eq (s := s.scanStopped m c head q.slots 1) (g := ring 1) rfl rfl hq hmounting)
  · exact (scanStops_open hm hc hq ho head).trans (if_neg k.succ_ne_zero)
  · intro next
    have hnext : epochAfter n = next := epochAfter_eq n
    rw [← hnext]
    exact ⟨recoveredNextEpoch_of_later, recoveredNextEpoch_of_not_later⟩

end Sys2Proof.Machine
end

/-! PROOF. The requests of the Mount Engine and the answers to its scan and its replay (R111, R112, R114, R115, R118,
R119). -/
section

namespace Sys2Proof.Machine

/-! ### Requests -/

/-- The Mount Engine asks where no hold keeps it back and it has no operation (R119). -/
theorem mountAsks_eq (s x : State) :
    (if s.mayIssue .mount then if s.hasOp .mount then none else some x else none) =
      if s.hold = .run ∧ ∀ o ∈ s.ops, o.requester ≠ .mount then some x else none := by
  simp only [mayIssue_iff_run (who := .mount) rfl, ← hasOp_eq_false_iff]
  by_cases h : s.hold = .run <;> cases hop : s.hasOp .mount <;> simp [h]

section
variable {s : State} {m : Mount}

theorem mountIssue_scan {at_ : SlotRef} (hm : s.mount = some m) (hp : m.phase = .scanning)
    (hc : m.scanCursor = some at_) :
    mountIssue? s =
      if s.hold = .run ∧ ∀ o ∈ s.ops, o.requester ≠ .mount then some (requestSlotRead .mount at_.position s)
      else none := by
  simp only [mountIssue?, hm, hp, hc]
  exact mountAsks_eq s _

theorem mountIssue_read {c : Cursor} (hm : s.mount = some m) (hp : m.phase = .replaying)
    (hs : m.step = some .reading) (hc : m.cursor = some c) :
    mountIssue? s =
      if s.hold = .run ∧ ∀ o ∈ s.ops, o.requester ≠ .mount then some (requestSlotRead .mount c.position s)
      else none := by
  simp only [mountIssue?, hm, hp, hs, hc]
  exact mountAsks_eq s _

theorem mountIssue_abandon {slot : SlotRef} {e : Word} {k : Nat} (hm : s.mount = some m) (hp : m.phase = .abandoning)
    (hs : m.abandonSlot = some slot) (ho : m.openEpoch = some (e, k)) :
    mountIssue? s =
      if s.hold = .run ∧ ∀ o ∈ s.ops, o.requester ≠ .mount then
        some (requestSlotWrite .mount slot.position
          (markerSlot .abandon s.journalNumber slot.sequence e (countWord m.restored)) s)
      else none := by
  simp only [mountIssue?, hm, hp, hs, ho]
  exact mountAsks_eq s _

/-- Of two conditions one of which fails, both do not hold. -/
theorem not_asks {c : Prop} (h : ¬c ∨ ∃ o ∈ s.ops, o.requester = .mount) :
    ¬(c ∧ ∀ o ∈ s.ops, o.requester ≠ .mount) := by
  rintro ⟨hc, hno⟩
  obtain hn | ⟨o, ho, hr⟩ := h
  · exact hn hc
  · exact hno o ho hr

/-! ### The scan -/

theorem validAt_iff (ws : List Word) (journal sequence : Word) :
    validAt ws journal sequence = true ↔
      validCheck ws = true ∧ ws.getD 1 0 = journal ∧ ws.getD 2 0 = sequence := by
  simp [validAt, and_assoc]

/-- Whether a granule address that an UNDO of the scan carries is acceptable (R112). -/
def Geometry.undoOk (q : Geometry) (g : Word) : Bool :=
  decide (g.toNat % 32 = 0) && !inJournalArea q.base q.slots g

/-- A slot read by the scan that is not valid at its position stops the scan there (R111). -/
theorem scanReadOk_invalid {at_ : SlotRef} {c : Chosen} {ws : List Word} (hm : s.mount = some m)
    (ha : m.scanCursor = some at_) (hc : m.chosen = some c) (hv : ¬validAt ws c.journal at_.sequence = true) :
    scanReadOk ws s = scanStops at_ s := by
  simp only [scanReadOk, hm, ha, hc]
  exact if_neg hv

/-- One that is valid and fits no row of R112 ends the recovery (R112). -/
theorem scanReadOk_unfit {at_ : SlotRef} {c : Chosen} {q : Geometry} {ws : List Word} (hm : s.mount = some m)
    (ha : m.scanCursor = some at_) (hc : m.chosen = some c) (hq : s.geometry = some q)
    (hv : validAt ws c.journal at_.sequence = true)
    (hn : m.shape.accept (kindCode ws) (ws.getD 3 0) (ws.getD 5 0) (q.undoOk (ws.getD 4 0)) = none) :
    scanReadOk ws s =
      structureError (some (ws.getD 3 0)) (ws.getD 2 0) { s with mount := some { m with scanned := m.scanned + 1 } } := by
  have hundo : (decide ((ws.getD 4 0).toNat % 32 = 0) &&
      !inJournalArea ((s.geometry.map (·.base)).getD 0) s.slotsInUse (ws.getD 4 0)) = q.undoOk (ws.getD 4 0) := by
    rw [slotsInUse_eq hq, hq]
    rfl
  simp only [scanReadOk, hm, ha, hc, if_pos hv, hundo, hn, State.setMount, Option.map_some]

/-- One that is valid and fits is accepted (R112). -/
theorem scanReadOk_fit {at_ : SlotRef} {c : Chosen} {q : Geometry} {ws : List Word} {sh : Shape}
    (hm : s.mount = some m) (ha : m.scanCursor = some at_) (hc : m.chosen = some c) (hq : s.geometry = some q)
    (hv : validAt ws c.journal at_.sequence = true)
    (hn : m.shape.accept (kindCode ws) (ws.getD 3 0) (ws.getD 5 0) (q.undoOk (ws.getD 4 0)) = some sh) :
    scanReadOk ws s = scanAccepts at_ ws sh s := by
  have hundo : (decide ((ws.getD 4 0).toNat % 32 = 0) &&
      !inJournalArea ((s.geometry.map (·.base)).getD 0) s.slotsInUse (ws.getD 4 0)) = q.undoOk (ws.getD 4 0) := by
    rw [slotsInUse_eq hq, hq]
    rfl
  simp only [scanReadOk, hm, ha, hc, if_pos hv, hundo, hn]

/-- The mount record after a slot accepted (R112). -/
def Mount.accepting (m : Mount) (ws : List Word) (sh : Shape) : Mount :=
  { m with
    scanned := m.scanned + 1, shape := sh,
    lastClose := if kindCode ws = SlotKind.close.code then some (ws.getD 3 0) else m.lastClose,
    highest := if kindCode ws = SlotKind.openSlot.code then some (ws.getD 3 0) else m.highest }

/-- An accepted slot is counted, and the scan goes on, or stops at the C-th (R111). -/
theorem scanAccepts_eq {q : Geometry} (hm : s.mount = some m) (hq : s.geometry = some q) (at_ : SlotRef)
    (ws : List Word) (sh : Shape) :
    scanAccepts at_ ws sh s =
      if q.slots - 2 ≤ m.scanned + 1 then
        scanStops ⟨nextPosition q.slots at_.position, at_.sequence + 1⟩ { s with mount := some (m.accepting ws sh) }
      else
        { s with
          mount := some { m.accepting ws sh with
            scanCursor := some ⟨nextPosition q.slots at_.position, at_.sequence + 1⟩ } } := by
  simp only [scanAccepts, State.setMount, hm, Option.map_some, capacity_eq hq, slotsInUse_eq hq]
  rfl

theorem mountOpOk_scan {o : Op} (hm : s.mount = some m) (hp : m.phase = .scanning) (hk : o.kind = .slotRead)
    (data : List Beat) : mountOpOk o data s = scanReadOk (wordsOfBeats data) s := by
  simp only [mountOpOk, hm, hp, hk]

theorem mountOpFailed_scan {o : Op} (hm : s.mount = some m) (hp : m.phase = .scanning) (hk : o.kind = .slotRead) :
    mountOpFailed o s = endMount .failed s := by
  simp only [mountOpFailed, mountIncident, hm, hp, hk]

end

/-- Settles O58. -/
theorem scanAcceptsSlotsByTheirShape : Obligations.ScanAcceptsSlotsByTheirShape := by
  refine ⟨fun code e n x k good => ⟨rfl, rfl, rfl, rfl, rfl⟩, ?_, ?_⟩
  · intro m at_ q s hm hp hc hq
    have hissue := mountIssue_scan hm hp hc
    rw [requestSlotRead, slotAddress_eq hq] at hissue
    exact ⟨fun hrun hno => hissue.trans (if_pos ⟨hrun, hno⟩), fun h => hissue.trans (if_neg (not_asks h))⟩
  · intro t o m at_ c q data s ha ho hk hm hp hcur hc hq d ws ends valid good next after
    have hd : s.dropOp o.ready = d := dropOp_eq s o.ready
    have hmd : d.mount = some m := hm
    have hqd : d.geometry = some q := hq
    have hvalid : valid ↔ validAt ws c.journal at_.sequence = true := (validAt_iff ws c.journal at_.sequence).symm
    have hok {x : State} (hn : data.length = o.beats) (hx : scanReadOk ws d = x) : ends x :=
      finalAnswer_ok ha (.inr hn) (by rw [hd, finalOk, ho, ← hx]; exact mountOpOk_scan hmd hp hk data)
    have hfailed : finalFail o false (s.dropOp o.ready) = endMount .failed d := by
      rw [hd, finalFail, ho]
      exact mountOpFailed_scan hmd hp hk
    refine ⟨fun hn hv => ?_, fun hn hv hnone => ?_, fun hn hv sh hsome => ?_, fun hn => ?_, finalAnswer_fail ha hfailed⟩
    · exact hok hn (scanReadOk_invalid hmd hcur hc fun h => hv (hvalid.mpr h))
    · exact hok hn (scanReadOk_unfit hmd hcur hc hqd (hvalid.mp hv) hnone)
    · intro m'
      have haccept := (scanReadOk_fit hmd hcur hc hqd (hvalid.mp hv) hsome).trans (scanAccepts_eq hmd hqd at_ ws sh)
      exact ⟨fun hmore => hok hn (haccept.trans (if_neg (by omega))), fun hlast => hok hn (haccept.trans (if_pos hlast))⟩
    · exact finalAnswer_misfit ha (by rw [hk]; rfl) hn hfailed

/-! ### The replay of a recovery -/

section
variable {s : State} {m : Mount} {o : Op}

theorem mountOpOk_read (hm : s.mount = some m) (hp : m.phase ≠ .scanning) (hk : o.kind = .slotRead) (data : List Beat) :
    mountOpOk o data s = mountReplayReadOk (wordsOfBeats data) s := by
  simp only [mountOpOk, hm, hk]

theorem mountOpOk_restore (hm : s.mount = some m) (hk : o.kind = .restoreWrite) (data : List Beat) :
    mountOpOk o data s = mountRestoreOk s := by
  simp only [mountOpOk, hm, hk]

theorem mountOpOk_marker (hm : s.mount = some m) (hk : o.kind = .slotWrite) (data : List Beat) :
    mountOpOk o data s = mountAbandonOk s := by
  simp only [mountOpOk, hm, hk]

/-- A slot read back is kept and waits, or fails the recovery by the tests of R92 (R114). -/
theorem mountReplayReadOk_eq {h : Chosen} {c : Cursor} {e : Word} {k : Nat} (hm : s.mount = some m)
    (hh : m.chosen = some h) (hc : m.cursor = some c) (ho : m.openEpoch = some (e, k)) (ws : List Word) :
    mountReplayReadOk ws s =
      if s.undoSlotOk ws h.journal e c then
        { s with mount := some { m with contents := some ws, step := some .waiting } }
      else endMount .failed (addIncident (slotIncident .slotInvalid e c.sequence) s) := by
  simp only [mountReplayReadOk, hm, hc, ho, State.setMount, Option.map_some]
  rw [hh]
  rfl

theorem mountRestoreOk_eq {c : Cursor} {q : Geometry} (hm : s.mount = some m) (hc : m.cursor = some c)
    (hq : s.geometry = some q) :
    mountRestoreOk s =
      if c.ordinal ≤ 1 then recoverAbandon { s with mount := some { m with restored := m.restored + 1 } }
      else
        { s with
          mount := some { m with
            restored := m.restored + 1, cursor := some (c.back q.slots), contents := none,
            step := some .reading } } := by
  simp only [mountRestoreOk, hm, hc, slotsInUse_eq hq, State.setMount, Option.map_some]

theorem acknowledge_eq {g : Ring} (hg : s.ring = some g) (x : Word) :
    acknowledge x s = { s with ring := some (g.acknowledged x) } := by
  rw [acknowledge, State.setRing, hg]
  rfl

theorem mountAbandonOk_eq {slot : SlotRef} (hm : s.mount = some m) (hs : m.abandonSlot = some slot) :
    mountAbandonOk s = recoverAnchor (acknowledge slot.sequence s) := by
  simp only [mountAbandonOk, hm, hs]

theorem mountOpFailed_replay {c : Cursor} {e : Word} {k : Nat} (hm : s.mount = some m) (hp : m.phase ≠ .scanning)
    (hk : o.kind = .slotRead ∨ o.kind = .restoreWrite) (hc : m.cursor = some c) (ho : m.openEpoch = some (e, k)) :
    mountOpFailed o s = endMount .failed (addIncident (restoreIncident o.address e c.sequence) s) := by
  obtain hk | hk := hk <;>
    simp only [mountOpFailed, mountIncident, hm, hk, hc, ho, Option.map_some, Option.getD_some]

theorem mountOpFailed_marker {slot : SlotRef} {e : Word} {k : Nat} (hm : s.mount = some m)
    (hk : o.kind = .slotWrite) (hs : m.abandonSlot = some slot) (ho : m.openEpoch = some (e, k)) :
    mountOpFailed o s = endMount .failed (addIncident (slotIncident .markerFailed e slot.sequence) s) := by
  simp only [mountOpFailed, mountIncident, hm, hk, hs, ho, Option.map_some, Option.getD_some]

end

/-- Settles O60. -/
theorem recoveryAnswersReplayTheEpoch : Obligations.RecoveryAnswersReplayTheEpoch := by
  constructor
  · intro m g q s hm hg hq place
    refine ⟨fun c hp hs hc => ?_, fun slot e k hp hs ho => ?_⟩
    · have hissue := mountIssue_read hm hp hs hc
      rw [requestSlotRead, slotAddress_eq hq] at hissue
      exact ⟨fun hrun hno => hissue.trans (if_pos ⟨hrun, hno⟩), fun h => hissue.trans (if_neg (not_asks h))⟩
    · have hissue := mountIssue_abandon hm hp hs ho
      rw [requestSlotWrite, slotAddress_eq hq, journalNumber_eq hg] at hissue
      exact ⟨fun hrun hno => hissue.trans (if_pos ⟨hrun, hno⟩), fun h => hissue.trans (if_neg (not_asks h))⟩
  · intro t o m h e k g q s ha ho hm hp hh hopen hg hq hmounting d failed
    have hd : s.dropOp o.ready = d := dropOp_eq s o.ready
    have hmd : d.mount = some m := hm
    have hgd : d.ring = some g := hg
    have hqd : d.geometry = some q := hq
    have hok {data : List Beat} {x : State} (hx : mountOpOk o data d = x) :
        finalOk o data (s.dropOp o.ready) = x := by rw [hd, finalOk, ho, hx]
    have hfail {x : State} (hx : mountOpFailed o d = x) : finalFail o false (s.dropOp o.ready) = x := by
      rw [hd, finalFail, ho, hx]
    refine ⟨fun c data hc => ?_, fun slot hk hs => ⟨?_, ?_⟩⟩
    · intro ws good
      have hgood : good ↔ d.undoSlotOk ws h.journal e c = true := (undoSlotOk_iff (s := d) hq ws h.journal e c).symm
      have hread (hk : o.kind = .slotRead) :=
        (mountOpOk_read hmd hp hk data).trans (mountReplayReadOk_eq hmd hh hc hopen ws)
      have hrestore (hk : o.kind = .restoreWrite) :=
        (mountOpOk_restore hmd hk []).trans (mountRestoreOk_eq hmd hc hqd)
      refine ⟨fun hk hn hy => ?_, fun hk hn hy => ?_, fun hk => ?_, fun hk hy => ?_, fun hk hy => ?_, fun hk => ?_⟩
      · exact finalAnswer_ok ha (.inr hn) (hok ((hread hk).trans (if_pos (hgood.mp hy))))
      · exact finalAnswer_ok ha (.inr hn) (hok ((hread hk).trans (if_neg fun k => hy (hgood.mpr k))))
      · exact finalAnswer_fail ha (hfail (mountOpFailed_replay hmd hp (.inl hk) hc hopen))
      · exact finalAnswer_ok ha (.inl (by rw [hk]; rfl)) (hok ((hrestore hk).trans (if_neg (by omega))))
      · exact finalAnswer_ok ha (.inl (by rw [hk]; rfl)) (hok ((hrestore hk).trans ((if_pos hy).trans
          (recoverAbandon_eq (s := { d with mount := _ }) rfl hgd hqd hmounting))))
      · exact finalAnswer_fail ha (hfail (mountOpFailed_replay hmd hp (.inr hk) hc hopen))
    · refine finalAnswer_ok ha (.inl (by rw [hk]; rfl)) (hok ?_)
      refine ((mountOpOk_marker hmd hk []).trans (mountAbandonOk_eq hmd hs)).trans ?_
      rw [acknowledge_eq hgd]
      exact recoverAnchor_eq (s := { d with ring := some (g.acknowledged slot.sequence) })
        (g := g.acknowledged slot.sequence) hmd rfl hh
    · exact finalAnswer_fail ha (hfail (mountOpFailed_marker hmd hk hs hopen))

end Sys2Proof.Machine
end

/-! PROOF. The anchor reads of a mount and what they decide (R7, R107, R108, R110). -/
section

namespace Sys2Proof.Machine

/-! ### Requests -/

theorem wantsAnchor_iff (s : State) (m : Mount) (c : Copy) :
    s.wantsAnchor m c = true ↔ m.finding c = .absent ∧ ∀ o ∈ s.ops, o.requester ≠ .mountAnchor c := by
  simp [State.wantsAnchor, hasOp_eq_false_iff]

theorem mountIssue_anchors {s : State} {m : Mount} (hm : s.mount = some m) (hp : m.phase = .readingAnchors) :
    mountIssue? s =
      if s.hold = .run then
        if s.wantsAnchor m .a = true then some (requestAnchorRead .a s)
        else if s.wantsAnchor m .b = true then some (requestAnchorRead .b s) else none
      else none := by
  simp only [mountIssue?, hm, hp, mayIssue_iff_run (who := .mount) rfl]

theorem requestAnchorRead_a {s : State} {q : Geometry} (hq : s.geometry = some q) :
    requestAnchorRead .a s = request .anchorRead (.mountAnchor .a) q.base 8 [] [] s := by
  rw [requestAnchorRead, slotAddress_eq hq]
  exact congrArg (fun x => request .anchorRead (.mountAnchor .a) x 8 [] [] s) (BitVec.add_zero q.base)

theorem requestAnchorRead_b {s : State} {q : Geometry} (hq : s.geometry = some q) :
    requestAnchorRead .b s = request .anchorRead (.mountAnchor .b) (q.base + 64) 8 [] [] s := by
  rw [requestAnchorRead, slotAddress_eq hq]
  rfl

/-! ### Valid anchors, and the instance that FORMAT chooses -/

theorem anchorWellFormed_iff (ws : List Word) :
    anchorWellFormed ws = true ↔
      validCheck ws = true ∧ (ws.getD 0 0).extractLsb' 0 8 = 10#8 ∧ ws.getD 1 0 ≠ 0 := by
  simp only [anchorWellFormed, Bool.and_eq_true, decide_eq_true_eq, and_assoc]
  rfl

theorem anchorValid_iff (n : Nat) (ws : List Word) :
    anchorValid n ws = true ↔ anchorWellFormed ws = true ∧ (ws.getD 3 0).toNat = n := by
  simp [anchorValid]

theorem anchorValid_nil (n : Nat) : anchorValid n [] = false := rfl

/-- The valid anchors that two reads found (R7, R108). -/
def foundAnchors (n : Nat) (a b : Finding) : List (List Word) := [a.words, b.words].filter (anchorValid n)

theorem words_eq_iff {n : Nat} {f : Finding} {ws : List Word} (hv : anchorValid n ws = true) :
    ws = f.words ↔ f = .read ws := by
  have hne : ws ≠ [] := by
    rintro rfl
    rw [anchorValid_nil] at hv
    cases hv
  cases f with
  | absent => exact ⟨fun h => absurd h hne, nofun⟩
  | failed => exact ⟨fun h => absurd h hne, nofun⟩
  | read vs => exact ⟨fun h => congrArg Finding.read h.symm, fun h => (Finding.read.inj h).symm⟩

theorem mem_foundAnchors {n : Nat} {a b : Finding} {ws : List Word} :
    ws ∈ foundAnchors n a b ↔ (a = .read ws ∨ b = .read ws) ∧ anchorValid n ws = true := by
  rw [foundAnchors, List.mem_filter, List.mem_pair]
  exact and_congr_left fun hv => or_congr (words_eq_iff hv) (words_eq_iff hv)

/-- The greater of two words, as numbers. -/
def greater (m x : Word) : Word := if m.toNat < x.toNat then x else m

theorem foldl_greater (i : Word) (rest : List Word) :
    rest.foldl greater i ∈ i :: rest ∧ ∀ x ∈ i :: rest, x.toNat ≤ (rest.foldl greater i).toNat := by
  induction rest generalizing i with
  | nil => simp
  | cons j rest ih =>
    obtain ⟨hmem, hmax⟩ := ih (greater i j)
    rw [List.foldl_cons]
    have hg : greater i j = i ∨ greater i j = j := by
      unfold greater
      split <;> simp
    have hle : i.toNat ≤ (greater i j).toNat ∧ j.toNat ≤ (greater i j).toNat := by
      unfold greater
      split <;> omega
    have htop := hmax _ List.mem_cons_self
    constructor
    · obtain h | h := List.mem_cons.mp hmem
      · rw [h]
        exact hg.elim (fun e => by simp [e]) (fun e => by simp [e])
      · exact List.mem_cons_of_mem _ (List.mem_cons_of_mem _ h)
    · intro x hx
      obtain rfl | hx := List.mem_cons.mp hx
      · exact hle.1.trans htop
      · obtain rfl | hx := List.mem_cons.mp hx
        · exact hle.2.trans htop
        · exact hmax x (List.mem_cons_of_mem _ hx)

/-- With no valid anchor FORMAT takes its seed, or 1 for a seed of 0 (R108). -/
theorem formatJournalNumber_none {n : Nat} {a b : Finding} (h : ∀ ws, ws ∉ foundAnchors n a b) (seed : Word) :
    formatJournalNumber n seed a b = if seed = 0 then 1 else seed := by
  have hnil : [a.words, b.words].filter (anchorValid n) = [] := List.eq_nil_iff_forall_not_mem.mpr h
  rw [formatJournalNumber, hnil]
  rfl

/-- With valid anchors it takes the instance after the greatest of theirs, and 1 after the last (R108). -/
theorem formatJournalNumber_after {n : Nat} {a b : Finding} {ws : List Word} (hws : ws ∈ foundAnchors n a b)
    (hmax : ∀ vs ∈ foundAnchors n a b, (vs.getD 1 0).toNat ≤ (ws.getD 1 0).toNat) (seed : Word) :
    formatJournalNumber n seed a b = if ws.getD 1 0 = 0xFFFFFFFF#32 then 1 else ws.getD 1 0 + 1 := by
  have hmem : ws.getD 1 0 ∈ (foundAnchors n a b).map (fun vs => vs.getD 1 0) := List.mem_map_of_mem hws
  have hle : ∀ x ∈ (foundAnchors n a b).map (fun vs => vs.getD 1 0), x.toNat ≤ (ws.getD 1 0).toNat := by
    intro x hx
    obtain ⟨vs, hvs, rfl⟩ := List.mem_map.mp hx
    exact hmax vs hvs
  unfold formatJournalNumber
  show (match (foundAnchors n a b).map (fun vs => vs.getD 1 0) with
    | [] => _
    | i :: rest => if rest.foldl greater i = 0xFFFFFFFF#32 then 1#32 else rest.foldl greater i + 1) = _
  cases hl : (foundAnchors n a b).map (fun vs => vs.getD 1 0) with
  | nil =>
    rw [hl] at hmem
    cases hmem
  | cons i rest =>
    rw [hl] at hmem hle
    obtain ⟨hin, htop⟩ := foldl_greater i rest
    have hgreatest : rest.foldl greater i = ws.getD 1 0 :=
      BitVec.eq_of_toNat_eq (Nat.le_antisymm (hle _ hin) (htop _ hmem))
    simp only [hgreatest]
    rfl

/-! ### The choice of RECOVER -/

section
variable {a b : List Word}

theorem chooseOfTwo_other (h : a.getD 1 0 ≠ b.getD 1 0) : chooseOfTwo a b = .b := if_pos h

theorem chooseOfTwo_later (hj : a.getD 1 0 = b.getD 1 0) (h : later (a.getD 2 0) (b.getD 2 0) = true) :
    chooseOfTwo a b = .a := (if_neg (not_not.mpr hj)).trans (if_pos h)

theorem chooseOfTwo_earlier (hj : a.getD 1 0 = b.getD 1 0) (h : later (b.getD 2 0) (a.getD 2 0) = true) :
    chooseOfTwo a b = .b :=
  (if_neg (not_not.mpr hj)).trans ((if_neg (by rw [later_asymm h]; nofun)).trans (if_pos h))

theorem chooseOfTwo_same (hj : a.getD 1 0 = b.getD 1 0) (h : a.getD 2 0 = b.getD 2 0) : chooseOfTwo a b = .a := by
  have ha : ¬later (a.getD 2 0) (b.getD 2 0) = true := by rw [h, later_irrefl]; nofun
  have hb : ¬later (b.getD 2 0) (a.getD 2 0) = true := by rw [h, later_irrefl]; nofun
  exact (if_neg (not_not.mpr hj)).trans ((if_neg ha).trans ((if_neg hb).trans (if_pos h)))

variable {m : Mount} {s : State}

theorem recoverChoose_eq (ha : m.findingA = .read a) (hb : m.findingB = .read b) :
    recoverChoose m s =
      if ¬anchorWellFormed a = true ∧ ¬anchorWellFormed b = true then endMount .noAnchor s
      else if ¬anchorValid s.slotsInUse a = true ∧ ¬anchorValid s.slotsInUse b = true then
        endMount .geometryMismatch s
      else if ¬anchorValid s.slotsInUse b = true then beginScan (chosenOf .a a) s
      else if ¬anchorValid s.slotsInUse a = true then beginScan (chosenOf .b b) s
      else if chooseOfTwo a b = .a then beginScan (chosenOf .a a) s else beginScan (chosenOf .b b) s := by
  simp only [recoverChoose, ha, hb, Bool.not_eq_true]
  cases chooseOfTwo a b <;> rfl

theorem recoverChoose_failed (h : m.findingA = .failed ∨ m.findingB = .failed) :
    recoverChoose m s = endMount .failed s := by
  unfold recoverChoose
  split
  · rename_i ha hb
    rw [ha, hb] at h
    exact h.elim nofun nofun
  · rfl

/-- The chosen anchor is checked for sense (R110). -/
theorem beginScan_eq (hm : s.mount = some m) (c : Copy) (ws : List Word) :
    beginScan (chosenOf c ws) s =
      if 2 ≤ (ws.getD 4 0).toNat ∧ (ws.getD 4 0).toNat < s.slotsInUse ∧ ws.getD 6 0 ≠ 0 then
        { s with
          mount := some { m with
            chosen := some (chosenOf c ws),
            scanCursor := some { position := (ws.getD 4 0).toNat, sequence := ws.getD 5 0 }, scanned := 0,
            shape := .empty, phase := .scanning } }
      else structureError none (ws.getD 5 0) s := by
  simp only [beginScan, State.setMount, hm, Option.map_some]
  rfl

end

/-! ### The answers to the reads -/

/-- The mount record with what a read found (R107). -/
def Mount.withFinding (m : Mount) (copy : Copy) (f : Finding) : Mount :=
  match copy with
  | .a => { m with findingA := f }
  | .b => { m with findingB := f }

theorem done_iff (f : Finding) : f.done = true ↔ f ≠ .absent := by
  cases f <;> simp [Finding.done]

section
variable {s : State} {m : Mount} {copy : Copy} {f : Finding}

theorem withFinding_phase (m : Mount) (copy : Copy) (f : Finding) : (m.withFinding copy f).phase = m.phase := by
  cases copy <;> rfl

theorem withFinding_kind (m : Mount) (copy : Copy) (f : Finding) : (m.withFinding copy f).kind = m.kind := by
  cases copy <;> rfl

theorem withFinding_seed (m : Mount) (copy : Copy) (f : Finding) : (m.withFinding copy f).seed = m.seed := by
  cases copy <;> rfl

/-- With both reads answered the mount acts, and until then the finding is kept (R107). -/
theorem anchorReadDone_eq (hm : s.mount = some m) (hp : m.phase = .readingAnchors) :
    anchorReadDone copy f s =
      if (m.withFinding copy f).findingA ≠ .absent ∧ (m.withFinding copy f).findingB ≠ .absent then
        if m.kind = .format then formatSetUp (m.withFinding copy f) { s with mount := some (m.withFinding copy f) }
        else recoverChoose (m.withFinding copy f) { s with mount := some (m.withFinding copy f) }
      else { s with mount := some (m.withFinding copy f) } := by
  have hact : anchorReadDone copy f s =
      if (m.withFinding copy f).phase = .readingAnchors ∧ (m.withFinding copy f).findingA.done = true ∧
          (m.withFinding copy f).findingB.done = true then
        match (m.withFinding copy f).kind with
        | .format => formatSetUp (m.withFinding copy f) { s with mount := some (m.withFinding copy f) }
        | .recover => recoverChoose (m.withFinding copy f) { s with mount := some (m.withFinding copy f) }
      else { s with mount := some (m.withFinding copy f) } := by
    simp only [anchorReadDone, State.setMount, hm, Option.map_some]
    cases copy <;> rfl
  simp only [hact, withFinding_phase, hp, done_iff, withFinding_kind, true_and]
  cases m.kind <;> rfl

theorem formatSetUp_eq (hm : s.mount = some m) :
    formatSetUp m s =
      { s with
        ring := some (setUpRing (formatJournalNumber s.slotsInUse m.seed m.findingA m.findingB) none 2 1#32),
        spaceWaiter := none, mount := some { m with phase := .writingB },
        claims := s.claims ++ [formatClaim .b 1#32] } := by
  simp only [formatSetUp, raiseClaim, State.setMount, hm, Option.map_some]

end

/-- Settles O57. -/
theorem anchorReadsDecideTheMount : Obligations.AnchorReadsDecideTheMount := by
  constructor
  · intro m q s hm hp hq wantsA wantsB
    have ha : s.wantsAnchor m .a = true ↔ wantsA := wantsAnchor_iff s m .a
    have hb : s.wantsAnchor m .b = true ↔ wantsB := wantsAnchor_iff s m .b
    have hissue := mountIssue_anchors hm hp
    rw [requestAnchorRead_a hq, requestAnchorRead_b hq] at hissue
    simp only [ha, hb] at hissue
    refine ⟨fun hrun h => ?_, fun hrun h h' => ?_, fun h => ?_⟩
    · rw [hissue, if_pos hrun, if_pos h]
    · rw [hissue, if_pos hrun, if_neg h, if_pos h']
    · obtain hhold | ⟨h, h'⟩ := h
      · rw [hissue, if_neg hhold]
      · rw [hissue, if_neg h, if_neg h', ite_self]
  · intro t o copy m answer data s hans ho hk hm hp d found m' kept ends wellFormed valid finds scans
    have hd : s.dropOp o.ready = d := dropOp_eq s o.ready
    have hdone : anchorReadDone copy found d = _ := anchorReadDone_eq (s := d) hm hp
    have hm' : m.withFinding copy found = m' := rfl
    rw [hm'] at hdone
    have hends {x : State} (hx : anchorReadDone copy found d = x) : ends x := by
      have hok (h : answer = .ok ∧ data.length = o.beats) :
          finalOk o data (s.dropOp o.ready) = anchorReadDone copy found d := by
        rw [hd, finalOk, ho, show found = _ from if_pos h]
      have hfail (h : ¬(answer = .ok ∧ data.length = o.beats)) :
          finalFail o false (s.dropOp o.ready) = anchorReadDone copy found d := by
        rw [hd, finalFail, ho, show found = _ from if_neg h]
      rw [← hx]
      cases answer with
      | ok =>
        by_cases hn : data.length = o.beats
        · exact finalAnswer_ok hans (.inr hn) (hok ⟨rfl, hn⟩)
        · exact finalAnswer_misfit hans (by rw [hk]; rfl) hn (hfail fun h => hn h.2)
      | fail => exact finalAnswer_fail hans (hfail nofun)
    have hwell (ws : List Word) : wellFormed ws ↔ anchorWellFormed ws = true := (anchorWellFormed_iff ws).symm
    have hvalid (ws : List Word) : valid ws ↔ anchorValid kept.slotsInUse ws = true :=
      (and_congr_left' (hwell ws)).trans (anchorValid_iff s.slotsInUse ws).symm
    have hfinds (ws : List Word) : finds ws ↔ ws ∈ foundAnchors kept.slotsInUse m'.findingA m'.findingB :=
      (and_congr_right' (hvalid ws)).trans mem_foundAnchors.symm
    refine ⟨fun h => ?_, fun ha hb hkind => ?_, fun hkind => ?_⟩
    · exact hends (hdone.trans (if_neg fun hboth => h.elim hboth.1 hboth.2))
    · have hact := hdone.trans ((if_pos ⟨ha, hb⟩).trans (if_pos hkind))
      refine ⟨formatJournalNumber kept.slotsInUse m'.seed m'.findingA m'.findingB, ?_, fun hnone => ?_, fun ws hws hmax => ?_⟩
      · exact hends (hact.trans (formatSetUp_eq (s := kept) rfl))
      · rw [formatJournalNumber_none fun ws hws => hnone ws ((hfinds ws).mpr hws),
          show m'.seed = m.seed from withFinding_seed m copy found]
      · exact formatJournalNumber_after ((hfinds ws).mp hws) (fun vs hvs => hmax vs ((hfinds vs).mpr hvs)) m'.seed
    · have hact (ha : m'.findingA ≠ .absent) (hb : m'.findingB ≠ .absent) :
          anchorReadDone copy found d = recoverChoose m' kept :=
        hdone.trans ((if_pos ⟨ha, hb⟩).trans (if_neg (by rw [hkind]; nofun)))
      refine ⟨fun ha hb hfailed => hends ((hact ha hb).trans (recoverChoose_failed hfailed)), fun a b ha hb => ?_⟩
      have hchoose := (hact (by rw [ha]; nofun) (by rw [hb]; nofun)).trans (recoverChoose_eq (s := kept) ha hb)
      simp only [← hwell, ← hvalid] at hchoose
      have hscans (c : Copy) (ws : List Word) (hx : anchorReadDone copy found d = beginScan (chosenOf c ws) kept) :
          scans c ws := by
        have hscan := hx.trans (beginScan_eq (s := kept) rfl c ws)
        by_cases hsense : 2 ≤ (ws.getD 4 0).toNat ∧ (ws.getD 4 0).toNat < s.slotsInUse ∧ ws.getD 6 0 ≠ 0
        · exact (if_pos hsense).mpr (hends (hscan.trans (if_pos hsense)))
        · exact (if_neg hsense).mpr (hends (hscan.trans (if_neg hsense)))
      have hone (h : valid a ∨ valid b) := hchoose.trans
        ((if_neg fun k => h.elim (fun va => k.1 va.1) fun vb => k.2 vb.1).trans
          (if_neg fun k => h.elim k.1 k.2))
      have htwo (va : valid a) (vb : valid b) :=
        (hone (.inl va)).trans ((if_neg (not_not.mpr vb)).trans (if_neg (not_not.mpr va)))
      have hto_a (va : valid a) (vb : valid b) (h : chooseOfTwo a b = .a) : scans .a a :=
        hscans .a a ((htwo va vb).trans (if_pos h))
      have hto_b (va : valid a) (vb : valid b) (h : chooseOfTwo a b = .b) : scans .b b :=
        hscans .b b ((htwo va vb).trans (if_neg (by rw [h]; nofun)))
      refine ⟨fun wa wb => ?_, fun hw va vb => ?_, fun va vb => ?_, fun va vb => ?_, fun va vb hj => ?_,
        fun va vb hj h => ?_, fun va vb hj h => ?_, fun va vb hj h => ?_⟩
      · exact hends (hchoose.trans (if_pos ⟨wa, wb⟩))
      · exact hends (hchoose.trans ((if_neg fun k => hw.elim k.1 k.2).trans (if_pos ⟨va, vb⟩)))
      · exact hscans .a a ((hone (.inl va)).trans (if_pos vb))
      · exact hscans .b b ((hone (.inr vb)).trans ((if_neg (not_not.mpr vb)).trans (if_pos va)))
      · exact hto_b va vb (chooseOfTwo_other hj)
      · exact hto_a va vb (chooseOfTwo_later hj h)
      · exact hto_b va vb (chooseOfTwo_earlier hj h)
      · exact hto_a va vb (chooseOfTwo_same hj h)

end Sys2Proof.Machine
end

/-! PROOF. What entry to FAULTED ends and what it keeps (R21, R35, R58, R81, R82, R100, R146, R159). -/
section

namespace Sys2Proof.Machine

/-! ### Withdrawn entries -/

theorem withdraw_eq (e : WriteEntry) (s : State) :
    withdraw e s =
      { s with
        writeQueue := s.writeQueue.filter (fun x => x.place ≠ e.place),
        ops := s.ops.filter (fun o => ¬(o.phase = .waiting ∧ o.requester = .entry e.place)),
        responses := s.responses ++ ([e].filter (fun e => e.ack = .waited)).map
          (fun e => { tag := e.tag, status := .aborted, data := [] }) } := by
  have hops : s.ops.filter (fun o => !(o.isWaiting && o.requester == .entry e.place)) =
      s.ops.filter (fun o => ¬(o.phase = .waiting ∧ o.requester = .entry e.place)) :=
    List.filter_congr fun o _ => by rw [Bool.eq_iff_iff]; simp [Op.isWaiting]
  rw [withdraw, dequeue, State.cancelWaiting, filter_bne, hops]
  cases h : e.ack <;> simp [answerWaited, h, respond]

/-- Withdrawn entries leave with their tag requests, the WAITED ones answered in order (R35, R146). -/
theorem withdrawAll_eq (es : List WriteEntry) (s : State) :
    withdrawAll es s =
      { s with
        writeQueue := s.writeQueue.filter (fun e => e.place ∉ es.map (·.place)),
        ops := s.ops.filter (fun o => ¬(o.phase = .waiting ∧ ∃ e ∈ es, o.requester = .entry e.place)),
        responses := s.responses ++ (es.filter (fun e => e.ack = .waited)).map
          (fun e => { tag := e.tag, status := .aborted, data := [] }) } := by
  induction es generalizing s with
  | nil => simp [withdrawAll]
  | cons e es ih =>
    rw [withdrawAll, List.foldl_cons, ← withdrawAll, ih, withdraw_eq]
    simp only [List.filter_filter]
    congr 1
    · refine List.filter_congr fun x _ => ?_
      rw [Bool.eq_iff_iff]
      simp [and_comm]
    · refine List.filter_congr fun o _ => ?_
      simp only [List.mem_cons, exists_eq_or_imp, and_or_left, not_or, Bool.decide_and, Bool.and_comm]
    · rw [List.append_assoc, ← List.map_append, ← List.filter_append, List.singleton_append]

/-! ### Operations at a fault -/

/-- The entries that the fault withdraws (R35, R58). -/
def State.faultLeaving (s : State) : List WriteEntry := s.writeQueue.filter s.faultWithdraws

/-- Whether the fault cancels a record: a waiting one of work that ends, or of an entry that is withdrawn (R146). -/
def State.faultCancels (s : State) (o : Op) : Bool :=
  o.isWaiting && (o.endsInFault || s.faultLeaving.any (fun e => o.requester == .entry e.place))

theorem faultCancels_iff (s : State) (o : Op) :
    s.faultCancels o = true ↔
      o.phase = .waiting ∧ (o.endsInFault = true ∨ ∃ e ∈ s.faultLeaving, o.requester = .entry e.place) := by
  simp [State.faultCancels, Op.isWaiting]

section
variable {s : State} {o : Op}

theorem orphaned_phase (s : State) (o : Op) : (s.orphaned o).phase = o.phase := by
  unfold State.orphaned
  split <;> rfl

/-- Only work that a fault ends leaves operations without a requester (R159). -/
theorem orphaned_eq (h : o.endsInFault = false) : s.orphaned o = o := by
  have hnone : s.orphanOf o = none := by
    unfold State.orphanOf
    cases hr : o.requester <;> simp_all [Op.endsInFault]
  rw [State.orphaned, hnone]

theorem orphaned_requester_entry (s : State) (o : Op) (p : Nat) :
    (s.orphaned o).requester = .entry p ↔ o.requester = .entry p := by
  constructor
  · intro h
    unfold State.orphaned at h
    split at h
    · cases h
    · exact h
  · intro h
    rw [orphaned_eq (by rw [Op.endsInFault, h]), h]

theorem orphaned_ends (h : (s.orphaned o).endsInFault = true) : o.endsInFault = true := by
  by_contra hends
  rw [orphaned_eq (Bool.eq_false_iff.mpr hends)] at h
  exact hends h

end

/-- The records after a fault, whether those of entries are cancelled before the others lose their requester or after. -/
theorem faultOps_filter (s : State) :
    ((s.ops.filter (fun o => !(o.isWaiting && o.endsInFault))).map s.orphaned).filter
        (fun o => ¬(o.phase = .waiting ∧ ∃ e ∈ s.faultLeaving, o.requester = .entry e.place)) =
      (s.ops.filter (fun o => !s.faultCancels o)).map s.orphaned := by
  rw [List.filter_map, List.filter_filter]
  refine congrArg _ (List.filter_congr fun o _ => ?_)
  rw [Bool.eq_iff_iff]
  simp only [Function.comp_apply, orphaned_phase, orphaned_requester_entry, Op.isWaiting, Bool.and_eq_true,
    Bool.not_eq_true', ← Bool.not_eq_true, decide_eq_true_eq, faultCancels_iff]
  rw [← not_or, ← and_or_left, or_comm]

/-- The records cancelled hold no tag, and the others keep theirs (R145, R159). -/
theorem faultOps_tags (s : State) :
    ((s.ops.filter (fun o => !s.faultCancels o)).map s.orphaned).filterMap (fun o => o.phase.tag?) =
      s.ops.filterMap (fun o => o.phase.tag?) := by
  rw [List.filterMap_map, List.filterMap_filter]
  refine List.filterMap_congr fun o _ => ?_
  simp only [Function.comp_apply, orphaned_phase]
  cases hc : s.faultCancels o with
  | false => rfl
  | true =>
    rw [((faultCancels_iff s o).mp hc).1]
    rfl

/-! ### The state at a fault -/

/-- The state after an entry to FAULTED, but for its completion records and the latching of OP_DONE. -/
def State.faulted (s : State) : State :=
  { s with
    controller := .faulted, filter := [], active := none, closing := none, rollback := none, autoTimer := none,
    pendingAuto := false, latched := s.latched ||| 0x02#6, captureOrder := [],
    captures := (s.captures.filter (fun c => s.captureIssued c.entry)).map (fun c => { c with mark := .fault }),
    ring := s.ring.map (fun g => { g with owed := 0 }), spaceWaiter := none, claims := [],
    openWrites := s.openWrites.filter (fun w =>
      s.ops.any (fun o => o.requester == .openSlot w.epoch w.slot.sequence && !o.isWaiting)),
    ops := (s.ops.filter (fun o => !s.faultCancels o)).map s.orphaned,
    writeQueue := s.writeQueue.filter (fun e => e.place ∉ s.faultLeaving.map (·.place)),
    responses := s.responses ++ (s.faultLeaving.filter (fun e => e.ack = .waited)).map
      (fun e => { tag := e.tag, status := .aborted, data := [] }) }

theorem captureIssued_faultController (s : State) : (faultController s).captureIssued = s.captureIssued := by
  unfold State.captureIssued
  rfl

theorem enterFaulted_eq {s : State}
    (h : s.controller = .idle ∨ s.controller = .active ∨ s.controller = .rollingBack) :
    enterFaulted s = reportRollback s.rollback (reportCloser s.closing s.faulted) := by
  have hstate : withdrawAll s.faultLeaving (faultOps s (faultRing (faultCaptures (faultController s)))) = s.faulted := by
    rw [withdrawAll_eq, State.faulted, ← faultOps_filter, faultCaptures, captureIssued_faultController]
    rfl
  rw [enterFaulted, if_pos h, ← hstate]
  rfl

/-! ### The completion records of the work that ends -/

/-- The record of the closer that a fault ends before its commit point (R82). -/
def State.closerReports (s : State) : List Completion :=
  match s.closing with
  | some c => if c.stage = .reclaiming then [] else [c.failedCompletion]
  | none => []

/-- The record of the rollback that a fault ends (R100). -/
def State.rollbackReports (s : State) : List Completion :=
  match s.rollback with
  | some b => [b.completion .failed]
  | none => []

/-- Completion records appended one after another (R169). -/
def addCompletions (cs : List Completion) (s : State) : State := cs.foldl (fun s c => addCompletion c s) s

theorem reports_eq (s x : State) :
    reportRollback s.rollback (reportCloser s.closing x) = addCompletions (s.closerReports ++ s.rollbackReports) x := by
  have hrollback (y : State) : reportRollback s.rollback y = addCompletions s.rollbackReports y := by
    unfold State.rollbackReports
    cases s.rollback <;> rfl
  rw [hrollback, addCompletions, addCompletions, List.foldl_append]
  congr 1
  unfold State.closerReports reportCloser
  cases s.closing with
  | none => rfl
  | some c =>
    by_cases hc : c.stage = .reclaiming
    · simp only [if_pos hc, List.foldl_nil]
    · simp only [if_neg hc, List.foldl_cons, List.foldl_nil]

theorem addCompletion_only (c : Completion) (s : State) :
    addCompletion c s =
      { s with completions := (addCompletion c s).completions, latched := s.latched ||| 0x01#6 } := by
  unfold addCompletion
  cases s.completions with
  | nil => rfl
  | cons oldest rest =>
    simp only []
    split <;> rfl

theorem addCompletion_completions {c : Completion} {s : State} (h : s.completions.length < 4) :
    (addCompletion c s).completions = s.completions ++ [{ c with discarded := 0 }] := by
  unfold addCompletion
  cases hs : s.completions with
  | nil => rfl
  | cons oldest rest =>
    rw [hs] at h
    exact congrArg (fun x : State => x.completions) (congrArg (latch .opDone) (if_pos h))

/-- Appending completion records changes their list and the latched set, and no bit of the latter but OP_DONE. -/
theorem addCompletions_only (cs : List Completion) (s : State) :
    ∃ l, addCompletions cs s = { s with completions := (addCompletions cs s).completions, latched := l } ∧
      l.getLsbD 1 = s.latched.getLsbD 1 := by
  induction cs generalizing s with
  | nil => exact ⟨s.latched, rfl, rfl⟩
  | cons c cs ih =>
    obtain ⟨l, heq, hl⟩ := ih (addCompletion c s)
    rw [addCompletion_only c s] at heq hl
    refine ⟨l, ?_, hl.trans ?_⟩
    · rw [addCompletions, List.foldl_cons, addCompletion_only c s]
      exact heq
    · rw [BitVec.getLsbD_or]
      exact Bool.or_false _

theorem addCompletions_completions {cs : List Completion} {s : State} (h : s.completions.length + cs.length ≤ 4)
    (hcs : ∀ c ∈ cs, c.discarded = 0) : (addCompletions cs s).completions = s.completions ++ cs := by
  induction cs generalizing s with
  | nil => exact (List.append_nil _).symm
  | cons c cs ih =>
    obtain ⟨hc, hrest⟩ := List.forall_mem_cons.mp hcs
    rw [List.length_cons] at h
    have hadd : (addCompletion c s).completions = s.completions ++ [c] := by
      rw [addCompletion_completions (by omega), ← hc]
    have hlen : (addCompletion c s).completions.length + cs.length ≤ 4 := by
      rw [hadd, List.length_append, List.length_singleton]
      omega
    rw [addCompletions, List.foldl_cons, ← addCompletions, ih hlen hrest, hadd, List.append_assoc,
      List.singleton_append]

/-- At most one record of each. -/
theorem reports_length (s : State) : (s.closerReports ++ s.rollbackReports).length ≤ 2 := by
  have hcloser : s.closerReports.length ≤ 1 := by
    unfold State.closerReports
    split
    · split <;> simp
    · simp
  have hrollback : s.rollbackReports.length ≤ 1 := by
    unfold State.rollbackReports
    split <;> simp
  rw [List.length_append]
  omega

theorem reports_discarded (s : State) : ∀ c ∈ s.closerReports ++ s.rollbackReports, c.discarded = 0 := by
  intro c hc
  obtain hc | hc := List.mem_append.mp hc
  · unfold State.closerReports at hc
    split at hc
    · split at hc
      · cases hc
      · rw [List.mem_singleton.mp hc]
        rfl
    · cases hc
  · unfold State.rollbackReports at hc
    split at hc
    · rw [List.mem_singleton.mp hc]
      rfl
    · cases hc

/-- Settles O54. -/
theorem entryToFaultedEndsTheWork : Obligations.EntryToFaultedEndsTheWork := by
  intro s
  refine ⟨fun h => if_neg h, fun h => ?_⟩
  intro t issued leaving
  obtain ⟨l, honly, hl⟩ := addCompletions_only (s.closerReports ++ s.rollbackReports) s.faulted
  have ht : t = _ := (enterFaulted_eq h).trans ((reports_eq s s.faulted).trans honly)
  clear_value t
  subst ht
  have hissued (p : Nat) : issued p = s.captureIssued p :=
    List.any_congr rfl fun o => by rw [Bool.eq_iff_iff]; simp [Op.isWaiting]
  have hleaving : leaving = s.faultLeaving := by
    refine List.filter_congr fun e _ => congrArg (decide (e.cls = .journaled) && ·) ?_
    cases e.stage with
    | queued | spaceWait | ready | issued => rfl
    | undoRead | undoWrite => exact congrArg Bool.not (hissued e.place)
  refine ⟨rfl, rfl, rfl, rfl, rfl, rfl, rfl, rfl, rfl, rfl, rfl, ?_, ?_, ?_, ?_, ?_, ?_, ?_, ?_, ?_, rfl, rfl, rfl, rfl,
    rfl, rfl, rfl⟩
  · simp only [hissued]
    rfl
  · rw [hleaving]
    rfl
  · rw [hleaving]
    rfl
  · exact congrArg (· ++ s.quarantined) (faultOps_tags s)
  · refine List.filter_congr fun w _ => List.any_congr rfl fun o => ?_
    rw [Bool.eq_iff_iff]
    simp [Op.isWaiting]
  · intro work cancelled
    have hwork (o : Op) : work o = s.orphanOf o := by
      unfold State.orphanOf work
      cases o.requester with
      | closer => cases s.closing <;> rfl
      | rollback =>
        cases s.rollback with
        | none => rfl
        | some b => cases o.kind <;> rfl
      | entry | read | capture | openSlot | mount | mountAnchor | anchor | orphan => rfl
    have hcancelled (o : Op) : cancelled o = s.faultCancels o := by
      unfold State.faultCancels Op.endsInFault cancelled
      refine congrArg (o.isWaiting && ·) ?_
      cases o.requester with
      | capture | openSlot | closer | rollback | anchor => rfl
      | entry p =>
        rw [Bool.eq_iff_iff, hleaving]
        simp only [Bool.false_or, decide_eq_true_eq, List.mem_map, List.any_eq_true, beq_iff_eq, Requester.entry.injEq]
        exact exists_congr fun e => and_congr_right' eq_comm
      | read | mount | mountAnchor | orphan => simp
    simp only [hwork, hcancelled]
    rfl
  · intro o ho hphase
    have hends : o.endsInFault = false := by
      obtain ⟨x, hx, rfl⟩ := List.mem_map.mp ho
      obtain ⟨-, hkept⟩ := List.mem_filter.mp hx
      rw [orphaned_phase] at hphase
      by_contra hends
      rw [(faultCancels_iff s x).mpr ⟨hphase, .inl (orphaned_ends (Bool.eq_true_of_not_eq_false hends))⟩] at hkept
      cases hkept
    refine ⟨fun p hr => ?_, fun epoch sequence hr => ?_, fun hr => ?_, fun hr => ?_, fun w hr => ?_⟩ <;>
      · rw [Op.endsInFault, hr] at hends
        cases hends
  · refine hl.trans ?_
    rw [State.faulted, BitVec.getLsbD_or]
    exact Bool.or_true _
  · intro hroom
    have hlength := reports_length s
    refine (addCompletions_completions (s := s.faulted) (Nat.add_le_add hroom hlength) (reports_discarded s)).trans ?_
    rw [List.append_assoc]
    rfl

end Sys2Proof.Machine
end

/-! PROOF. The capacities that every step keeps, by the moves of Laws/Moves.lean (R23, R29, R36, R52, R121, R167,
R169). -/
section

namespace Sys2Proof.Machine

/-- No collection exceeds its capacity, in the view. -/
structure View.WithinCapacity (a : View) : Prop where
  queue : a.queue ≤ 32
  tracker : a.tracker ≤ 8
  load : a.load ≤ 8
  captures : a.captures ≤ 4
  waiter : a.waiter = true → a.captures < 4
  regions : a.regions.length = 16
  incidents : a.incidents ≤ 16
  drops : a.drops ≤ 255
  completions : a.completions.length ≤ 4
  discarded : ∀ n ∈ a.completions, n ≤ 255

theorem withinCapacity_iff_view (s : State) : s.WithinCapacity ↔ (view s).WithinCapacity := by
  have hlength : (view s).completions.length = s.completions.length := List.length_map ..
  have hdiscarded : (∀ n ∈ (view s).completions, n ≤ 255) ↔ ∀ c ∈ s.completions, c.discarded ≤ 255 :=
    List.forall_mem_map
  constructor
  · rintro ⟨queue, tracker, load, captures, waiter, regions, incidents, drops, completions, discarded⟩
    exact ⟨queue, tracker, (view_load s).trans_le load, captures, waiter, regions, incidents, drops,
      hlength.trans_le completions, hdiscarded.mpr discarded⟩
  · rintro ⟨queue, tracker, load, captures, waiter, regions, incidents, drops, completions, discarded⟩
    exact ⟨queue, tracker, (view_load s).symm.trans_le load, captures, waiter, regions, incidents, drops,
      hlength.symm.trans_le completions, hdiscarded.mp discarded⟩

/-! ### The data writes in flight or about to be -/

/-- The waiting DATA_WRITEs once the records of a place hold a tag: those of the other places (R27). -/
theorem filter_waitingWrite_setTag (l : List OpKey) (r : Nat) (t : DownTag) (b : Bool) :
    (l.map (fun k => if k.ready = r then { k with tag := some t, flying := b } else k)).filter (·.waitingWrite) =
      (l.filter (·.waitingWrite)).filter (fun k => k.ready ≠ r) := by
  induction l with
  | nil => rfl
  | cons k l ih =>
    by_cases hr : k.ready = r
    · cases hw : k.waitingWrite <;> simpa [hr, hw, OpKey.waitingWrite] using ih
    · cases hw : k.waitingWrite <;> simpa [hr, hw] using ih

/-- A tag given to a record takes no data write into the load. -/
theorem load_setTag_le (a : View) (r : Nat) (t : DownTag) (b : Bool) :
    (a.setOp r (fun k => { k with tag := some t, flying := b })).load ≤ a.load := by
  simp only [View.load, View.setOp, filter_waitingWrite_setTag]
  exact Nat.add_le_add_left (List.length_filter_le _ _) _

/-- A DATA_WRITE that is issued leaves room for its record of the in-flight set (R27, R29). -/
theorem load_setTag_lt {a : View} {k : OpKey} (hk : k ∈ a.ops) (hw : k.waitingWrite = true) (t : DownTag) (b : Bool) :
    (a.setOp k.ready (fun k => { k with tag := some t, flying := b })).load < a.load := by
  simp only [View.load, View.setOp, filter_waitingWrite_setTag]
  refine Nat.add_lt_add_left (List.length_filter_lt_length_iff_exists.mpr ⟨k, ?_, by simp⟩) _
  exact List.mem_filter.mpr ⟨hk, hw⟩

/-- A request adds one waiting DATA_WRITE at most, and none where it is not a write-queue entry's. -/
theorem load_asked (a : View) (e : Bool) (n : Nat) :
    ({ a with ops := a.ops ++ [{ ready := a.nextReady, tag := none, flying := false, entry := e }], nextReady := n } :
      View).load = a.load + e.toNat := by
  cases e <;> simp [View.load, OpKey.waitingWrite, Nat.add_assoc]

theorem load_ended {a : View} {l : List OpKey} (h : l.Sublist a.ops) : ({ a with ops := l } : View).load ≤ a.load :=
  Nat.add_le_add_left (h.filter _).length_le _

/-! ### The completion list -/

theorem pushDiscarded_cons (n : Nat) (l : List Nat) :
    pushDiscarded (n :: l) = if l.length + 1 < 4 then n :: l ++ [0] else l ++ [min (1 + n) 255] := rfl

theorem pushDiscarded_length {l : List Nat} (h : l.length ≤ 4) : (pushDiscarded l).length ≤ 4 := by
  cases l with
  | nil => decide
  | cons n l =>
    rw [pushDiscarded_cons]
    split
    · rename_i hroom
      exact List.length_append.trans_le hroom
    · exact List.length_append.trans_le h

theorem pushDiscarded_le {l : List Nat} (h : ∀ n ∈ l, n ≤ 255) : ∀ n ∈ pushDiscarded l, n ≤ 255 := by
  cases l with
  | nil => simp [pushDiscarded]
  | cons n l =>
    rw [pushDiscarded_cons]
    split
    · exact List.forall_mem_append.mpr ⟨h, by simp⟩
    · exact List.forall_mem_append.mpr ⟨(List.forall_mem_cons.mp h).2, by simp⟩

/-! ### Moves and steps -/

/-- A reset leaves every collection but the in-flight set and the region table empty. -/
theorem View.WithinCapacity.cleared {a : View} (h : a.WithinCapacity) : a.cleared.WithinCapacity where
  queue := Nat.zero_le _
  tracker := Nat.zero_le _
  load := (Nat.le_add_right a.inFlight _).trans h.load
  captures := Nat.zero_le _
  waiter := nofun
  regions := h.regions
  incidents := Nat.zero_le _
  drops := Nat.zero_le _
  completions := Nat.zero_le _
  discarded := nofun

/-- Each move that lets a collection grow has room for it, and a space waiter keeps room for its capture (R51). -/
theorem Move.keeps_withinCapacity {a b : View} (m : Move a b) (h : a.WithinCapacity) : b.WithinCapacity := by
  cases m with
  | region i x => exact { h with regions := List.length_set.trans h.regions }
  | enqueue hroom => exact { h with queue := hroom }
  | dequeue n hn => exact { h with queue := hn.trans h.queue }
  | readIn hroom => exact { h with tracker := hroom }
  | readOut n hn => exact { h with tracker := hn.trans h.tracker }
  | landed n hn => exact { h with load := (Nat.add_le_add_right hn _).trans h.load }
  | captureIn hroom hw => exact { h with captures := hroom, waiter := fun w => absurd w (by rw [hw]; nofun) }
  | captureOut n hn => exact { h with captures := hn.trans h.captures, waiter := fun w => hn.trans_lt (h.waiter w) }
  | wait hroom => exact { h with waiter := fun _ => hroom }
  | granted hw => exact { h with captures := h.waiter hw, waiter := nofun }
  | unwait => exact { h with waiter := nofun }
  | asked e hroom =>
    refine { h with load := ?_ }
    rw [load_asked]
    cases e with
    | false => exact h.load
    | true => exact hroom rfl
  | ended l hl => exact { h with load := (load_ended hl).trans h.load }
  | issued k t => exact { h with load := (load_setTag_le a k.ready t true).trans h.load }
  | issuedWrite k t hk hfree he =>
    obtain ⟨htag, -⟩ := hfree
    have hwaits : k.waitingWrite = true := by simp [OpKey.waitingWrite, htag, he]
    refine { h with load := ?_ }
    have hlt := load_setTag_lt hk hwaits t true
    calc _ = (a.setOp k.ready (fun k' => { k' with tag := some t, flying := true })).load + 1 := Nat.add_right_comm ..
      _ ≤ a.load := hlt
      _ ≤ 8 := h.load
  | held k t => exact { h with load := (load_setTag_le a k.ready t false).trans h.load }
  | timedOut k t => exact { h with load := (load_ended List.filter_sublist).trans h.load }
  | incident hroom => exact { h with incidents := hroom }
  | dropped => exact { h with drops := Nat.min_le_right _ _ }
  | popped n hn => exact { h with incidents := hn.trans h.incidents, drops := Nat.zero_le _ }
  | completed =>
    exact { h with completions := pushDiscarded_length h.completions, discarded := pushDiscarded_le h.discarded }
  | poppedCompletion =>
    exact { h with
      completions := (List.tail_sublist _).length_le.trans h.completions
      discarded := fun n hn => h.discarded n (List.mem_of_mem_tail hn) }
  | resetPart n hn => exact { h.cleared with load := hn.trans ((Nat.le_add_right _ _).trans h.load) }
  | rstHeld => exact { h.cleared with load := Nat.zero_le _, regions := List.length_replicate }
  | _ => exact { h with }

/-- Settles O7: capacities speak of the view alone, and every move keeps them. -/
theorem stepsKeepCapacities : Obligations.StepsKeepCapacities :=
  fun _ _ hs e => step_keeps withinCapacity_iff_view (fun _ _ m => m.keeps_withinCapacity) hs e

end Sys2Proof.Machine
end

/-! PROOF. How entries leave the write queue, and the ends of their operations and of reads: withdrawals, failures,
final answers, timeouts and late answers (R30 to R35, R39, R146, R147, R155, R156, R158). -/
section

namespace Sys2Proof.Machine

/-! ### One entry leaves -/

theorem dequeue_eq (p : Nat) (s : State) :
    dequeue p s =
      { s with
        writeQueue := s.writeQueue.filter (fun x => x.place ≠ p),
        ops := s.ops.filter (fun o => ¬(o.phase = .waiting ∧ o.requester = .entry p)) } := by
  have hops : s.ops.filter (fun o => !(o.isWaiting && o.requester == .entry p)) =
      s.ops.filter (fun o => ¬(o.phase = .waiting ∧ o.requester = .entry p)) :=
    List.filter_congr fun o _ => by rw [Bool.eq_iff_iff]; simp [Op.isWaiting]
  rw [dequeue, State.cancelWaiting, filter_bne, hops]

theorem answerWaited_eq (e : WriteEntry) (st : Status) (s : State) :
    answerWaited e st s =
      { s with
        responses :=
          if e.ack = .waited then s.responses ++ [{ tag := e.tag, status := st, data := [] }] else s.responses } := by
  cases h : e.ack <;> simp [answerWaited, h, respond]

/-- The failed entries of the epoch rise by 1 where it is ACTIVE or closing (R32, R34). -/
theorem countFailed_eq (n : Option Word) (s : State) :
    countFailed n s =
      { s with
        active := s.active.map (fun a => if n = some a.number then { a with failed := a.failed + 1 } else a),
        closing := s.closing.map (fun c =>
          if n = some c.record.number then { c with record := { c.record with failed := c.record.failed + 1 } }
          else c) } := by
  cases n with
  | none => simp [countFailed]
  | some n => simp only [countFailed, State.mapEpoch, Option.some.injEq, eq_comm]

theorem addIncident_of_room {s : State} (h : s.incidents.length < 16) (i : Incident) :
    addIncident i s = { s with incidents := s.incidents ++ [i], latched := s.latched ||| 0x08#6 } := by
  rw [addIncident, if_pos (show _ < Config.incidentCapacity from h)]
  rfl

theorem failEntry_waited {e : WriteEntry} (h : e.ack = .waited) (st : Status) (k : IncidentKind) (s : State) :
    failEntry e st k s = countFailed e.epoch (respond e.tag st [] (dequeue e.place s)) := by
  simp only [failEntry, h]

theorem failEntry_posted {e : WriteEntry} (h : e.ack = .posted) (st : Status) (k : IncidentKind) (s : State) :
    failEntry e st k s = countFailed e.epoch (addIncident (postedIncident k e) (dequeue e.place s)) := by
  simp only [failEntry, h]

/-- Settles O29: a withdrawn entry leaves as `withdrawAll_eq` says; one that fails leaves with its response or its
incident, and is counted. -/
theorem entriesLeaveWithdrawnOrFailed : Obligations.EntriesLeaveWithdrawnOrFailed := by
  refine ⟨withdrawAll_eq, fun e status kind s hroom => ?_⟩
  cases hack : e.ack with
  | waited =>
    rw [failEntry_waited hack, countFailed_eq, dequeue_eq]
    rfl
  | posted =>
    rw [failEntry_posted hack, countFailed_eq, dequeue_eq, addIncident_of_room (by exact hroom)]
    rfl

/-! ### Ends of data writes and reads -/

theorem addIncident_inFlight (i : Incident) (l : List InFlight) (s : State) :
    addIncident i { s with inFlight := l } = { addIncident i s with inFlight := l } := by
  by_cases h : s.incidents.length < Config.incidentCapacity <;> simp only [addIncident, h] <;> rfl

/-- The failure of an entry neither reads nor changes the in-flight set. -/
theorem failEntry_inFlight (e : WriteEntry) (st : Status) (k : IncidentKind) (l : List InFlight) (s : State) :
    failEntry e st k { s with inFlight := l } = { failEntry e st k s with inFlight := l } := by
  have hcount (x : State) :
      countFailed e.epoch { x with inFlight := l } = { countFailed e.epoch x with inFlight := l } := by
    cases e.epoch <;> rfl
  cases hack : e.ack with
  | waited =>
    rw [failEntry_waited hack, failEntry_waited hack]
    exact hcount (respond e.tag st [] (dequeue e.place s))
  | posted =>
    rw [failEntry_posted hack, failEntry_posted hack, ← hcount, ← addIncident_inFlight]
    rfl

section
variable {s : State} {e : WriteEntry} {p : Nat}

theorem entryOk_eq (he : s.entryAt p = some e) :
    entryOk p s =
      answerWaited e .ok (dequeue p { s with inFlight := s.inFlight.filter (fun f => f.entry ≠ some p) }) := by
  simp only [entryOk, he, filter_bne]

/-- An answer ends the in-flight record of the entry that fails (R32). -/
theorem entryFailed_answered (he : s.entryAt p = some e) :
    entryFailed false p s = failMemory e { s with inFlight := s.inFlight.filter (fun f => f.entry ≠ some p) } := by
  simp only [entryFailed, he, filter_bne]
  rfl

/-- A timeout leaves the in-flight record of the entry that fails, without its entry (R33). -/
theorem entryFailed_timedOut (he : s.entryAt p = some e) :
    entryFailed true p s =
      failMemory e
        { s with inFlight := s.inFlight.map (fun f => if f.entry = some p then { f with entry := none } else f) } := by
  simp only [entryFailed, he, if_true]

end

theorem readEnds_eq {s : State} {q : ReadEntry} {p : Nat} (hq : s.readAt p = some q) (st : Status) (data : List Beat) :
    readEnds p st data s =
      { s with
        readTracker := s.readTracker.filter (fun r => r.place ≠ p),
        responses := s.responses ++ [{ tag := q.tag, status := st, data := data }] } := by
  simp only [readEnds, hq, filter_bne]
  rfl

theorem readFailed_eq {s : State} {q : ReadEntry} {p : Nat} (hq : s.readAt p = some q) :
    readFailed p s = readEnds p .memError (List.replicate q.beats onesBeat) s := by
  simp only [readFailed, hq]

/-- Settles O45: the record that an answer ends goes, and `entryOk`, `entryFailed`, `readEnds` or `readFailed` ends its
request. -/
theorem dataAnswersEndTheirRequests : Obligations.DataAnswersEndTheirRequests := by
  constructor
  · intro t o e p s ha hk ho he d
    have hd : s.dropOp o.ready = d := dropOp_eq s o.ready
    have hed : d.entryAt p = some e := he
    refine ⟨finalAnswer_ok ha (.inl (by rw [hk]; rfl)) ?_, finalAnswer_fail ha ?_, ?_⟩
    · rw [hd, finalOk, ho]
      simp only [entryOk_eq hed, answerWaited_eq, dequeue_eq]
      rfl
    · rw [hd, finalFail, ho]
      exact entryFailed_answered hed
    · rw [finalFail, ho]
      exact entryFailed_timedOut hed
  · intro t o r p data s ha hk ho hr ended ones
    have hd : s.dropOp o.ready = { s with ops := s.ops.filter (fun x => x.ready ≠ o.ready) } := dropOp_eq s o.ready
    have hrd : (s.dropOp o.ready).readAt p = some r := hr
    have hend (st : Status) (beats : List Beat) : readEnds p st beats (s.dropOp o.ready) = ended st beats := by
      rw [readEnds_eq hrd, hd]
    have hfailed : finalFail o false (s.dropOp o.ready) = ended .memError ones := by
      rw [finalFail, ho]
      exact (readFailed_eq hrd).trans (hend _ _)
    refine ⟨fun fit => finalAnswer_ok ha (.inr fit) ?_,
      fun unfit => finalAnswer_misfit ha (by rw [hk]; rfl) unfit hfailed, finalAnswer_fail ha hfailed⟩
    rw [finalOk, ho]
    exact hend .ok data

/-! ### Timeouts and late answers -/

theorem timeout_eq {t : DownTag} {o : Op} {s : State} (h : s.flyingAt t = some o) :
    timeout? t s =
      some (finalFail o true (addIncident { Incident.bare .dsTimeout with address := some o.address }
        { s with ops := s.ops.filter (fun x => x.ready ≠ o.ready), quarantined := s.quarantined ++ [t] })) := by
  simp only [timeout?, h, dropOp_eq]

theorem lateOp_eq (t : DownTag) (s : State) :
    lateOp t s =
      { s with
        quarantined := s.quarantined.filter (fun x => x ≠ t),
        inFlight := s.inFlight.filter (fun f => ¬(f.tag = t ∧ f.entry = none)) } := by
  have hflight : s.inFlight.filter (fun f => !(f.tag == t && f.entry.isNone)) =
      s.inFlight.filter (fun f => ¬(f.tag = t ∧ f.entry = none)) :=
    List.filter_congr fun f _ => by rw [Bool.eq_iff_iff]; simp [Option.ne_none_iff_isSome]
  rw [lateOp, filter_bne s.quarantined (fun q => q), hflight]

/-- An answer for a QUARANTINED tag is a late one, whatever it says (R156). -/
theorem answer_late {t : DownTag} {s : State} (h : t ∈ s.quarantined) (a : MemoryAnswer) (data : List Beat) :
    answer? t a data s = some (lateOp t s) :=
  if_pos (List.contains_iff_mem.mpr h)

/-- An answer for a tag that is FREE, or whose record is HELD, is discarded (R147). -/
theorem eventOf_discarded {t : DownTag} {s : State} (hq : t ∉ s.quarantined) (hf : s.flyingAt t = none)
    (a : MemoryAnswer) (data : List Beat) : eventOf (answer? t a data s) s = .next s := by
  have hnone : answer? t a data s = none := by
    rw [answer?, if_neg (by simpa using hq), hf]
  rw [hnone]
  rfl

/-- Settles O43: the record that holds the tag decides what its timeout or its answer ends; only the in-flight record of
a data write tells a timeout from an answer. -/
theorem timeoutsQuarantineAndLateAnswersFree : Obligations.TimeoutsQuarantineAndLateAnswersFree := by
  intro t s
  refine ⟨fun o ho => eventOf_some (timeout_eq ho), fun hnone => ?_, fun a ht => ?_, fun hq hf => ?_, fun o ha => ?_,
    fun o d hother => ?_, fun o d p e ho he => ?_⟩
  · show eventOf (timeout? t s) s = .next s
    rw [timeout?, hnone]
    rfl
  · exact eventOf_some ((answer_late ht a []).trans (congrArg some (lateOp_eq t s)))
  · exact ⟨fun a => eventOf_discarded hq hf a [], eventOf_discarded hq hf .busy [],
      fun a => eventOf_discarded hq hf (answerOf a) []⟩
  · exact finalAnswer_fail ha (by rw [dropOp_eq])
  · cases hr : o.requester with
    | entry p => exact absurd hr (hother p)
    | _ => simp only [finalFail, hr]
  · simp only [finalFail, ho, entryFailed_answered he, entryFailed_timedOut he, failMemory, failEntry_inFlight,
      and_self]

end Sys2Proof.Machine
end

/-! PROOF. The acceptance of writes and the admission of reads (R24, R25, R37, R44, R45, R50, R127, R128, R137, R139,
R141). -/
section

namespace Sys2Proof.Machine

/-! ### The entry of an accepted write -/

/-- The granule address is the address less its offset in the granule. -/
theorem granuleOf_eq (a : Word) : granuleOf a = a - BitVec.ofNat 32 (a.toNat % 32) := by
  have hoffset : a &&& 0x1F#32 = BitVec.ofNat 32 (a.toNat % 32) := by
    refine BitVec.eq_of_toNat_eq ?_
    have hmask : a.toNat &&& 31 = a.toNat % 32 := Nat.and_two_pow_sub_one_eq_mod a.toNat 5
    rw [BitVec.toNat_and]
    exact hmask.trans (Nat.mod_eq_of_lt (by omega)).symm
  have hdisjoint : (a &&& 0xFFFFFFE0#32) &&& (a &&& 0x1F#32) = 0#32 := by
    rw [BitVec.and_assoc, ← BitVec.and_assoc (0xFFFFFFE0#32), BitVec.and_comm (0xFFFFFFE0#32), BitVec.and_assoc a]
    simp
  have hsum : granuleOf a + BitVec.ofNat 32 (a.toNat % 32) = a := by
    rw [← hoffset, granuleOf, BitVec.add_eq_or_of_and_eq_zero _ _ hdisjoint, ← BitVec.and_or_distrib_left]
    exact BitVec.and_allOnes
  exact eq_sub_of_add_eq hsum

theorem answerPosted_eq (ack : AckMode) (tag : UpTag) (s : State) :
    answerPosted ack tag s =
      { s with
        responses :=
          if ack = .posted then s.responses ++ [{ tag := tag, status := .ok, data := [] }] else s.responses } := by
  cases ack <;> rfl

section
variable {r : WriteRequest} {ack : AckMode} {s : State} {a : EpochRecord}

theorem acceptWrite_plain : acceptWrite r .plain ack s =
    answerPosted ack r.tag (enqueue (entryOf r s.nextPlace .plain ack) s) := rfl

theorem acceptWrite_exempt : acceptWrite r .exempt ack s =
    answerPosted ack r.tag (enqueue (entryOf r s.nextPlace .exempt ack) s) := rfl

theorem acceptWrite_miss (ha : s.active = some a) (hf : s.filterAt (granuleOf r.address) = none) :
    acceptWrite r .journaled ack s =
      answerPosted ack r.tag (enqueueCapture (entryOf r s.nextPlace .journaled ack) a.number s) := by
  simp only [acceptWrite, ha, show s.filterAt (entryOf r s.nextPlace .journaled ack).granule = none from hf]

theorem acceptWrite_hit {f : FilterRecord} (ha : s.active = some a)
    (hf : s.filterAt (granuleOf r.address) = some f) :
    acceptWrite r .journaled ack s =
      answerPosted ack r.tag (enqueueCovered (entryOf r s.nextPlace .journaled ack) a.number f s) := by
  simp only [acceptWrite, ha, show s.filterAt (entryOf r s.nextPlace .journaled ack).granule = some f from hf]

end

/-- A hit joins the covered list of the linked capture record where its filter record holds no sequence yet (R45). -/
theorem enqueueCovered_eq (e : WriteEntry) (n : Word) (f : FilterRecord) (s : State) :
    enqueueCovered e n f s =
      let t := enqueue { e with relation := .covered, epoch := some n, slotSeq := f.covering } s
      if f.covering = none then
        { t with captureOrder := t.captureOrder.map (fun c =>
            if some c.entry = f.link then { c with covered := c.covered ++ [e.place] } else c) }
      else t := by
  cases h : f.covering <;> simp [enqueueCovered, h]

theorem enqueueCapture_eq (e : WriteEntry) (n : Word) (s : State) :
    enqueueCapture e n s =
      { enqueue { e with relation := .capture, epoch := some n, stage := .queued } s with
        captureOrder := s.captureOrder ++
          [{ entry := e.place, granule := e.granule, epoch := n, filterless := decide (1024 ≤ s.filter.length),
             covered := [] }],
        filter :=
          if 1024 ≤ s.filter.length then s.filter
          else s.filter ++ [{ granule := e.granule, covering := none, link := some e.place }] } := by
  have hcapacity : Config.filterCapacity = 1024 := rfl
  by_cases h : 1024 ≤ s.filter.length <;> simp [enqueueCapture, hcapacity, h, enqueue]

/-- Settles O36: a JOURNALED write is looked up in the filter, and joins the queue with what it finds there. -/
theorem acceptedWritesEnterTheQueue : Obligations.AcceptedWritesEnterTheQueue := by
  intro r ack s granule entry joined
  have hgranule : granuleOf r.address = granule := granuleOf_eq r.address
  have hentry (cls : EntryClass) : entryOf r s.nextPlace cls ack = entry cls := by
    rw [entryOf, hgranule]
  have hjoin (e : WriteEntry) : answerPosted ack r.tag (enqueue e s) = joined e := answerPosted_eq ack r.tag _
  refine ⟨?_, ?_, fun a ha => ?_⟩
  · rw [acceptWrite_plain, hentry, hjoin]
  · rw [acceptWrite_exempt, hentry, hjoin]
  intro mine
  constructor
  · intro hmiss t
    have hnone : s.filterAt (granuleOf r.address) = none :=
      List.find?_eq_none.mpr fun f hf => by simpa [hgranule] using hmiss f hf
    rw [acceptWrite_miss ha hnone, hentry, enqueueCapture_eq, answerPosted_eq]
    rfl
  · intro before after f hl hf hb t
    have hfirst : s.filterAt (granuleOf r.address) = some f :=
      find?_of_first hl (by simpa [hgranule] using hf) fun x hx => by simpa [hgranule] using hb x hx
    rw [acceptWrite_hit ha hfirst, hentry]
    split
    · rename_i hc
      rw [(enqueueCovered_eq _ _ f s).trans (if_pos hc), answerPosted_eq]
      rfl
    · rename_i hc
      rw [(enqueueCovered_eq _ _ f s).trans (if_neg hc), answerPosted_eq]
      rfl

/-! ### The admission of a READ -/

theorem burstOk_iff (address : Word) (beats : Nat) :
    burstOk address beats = true ↔
      address.toNat % 8 = 0 ∧ 1 ≤ beats ∧ beats ≤ 4 ∧ address.toNat % 32 / 8 + beats ≤ 4 := by
  simp [burstOk, and_assoc]

theorem outstanding_iff (s : State) (tag : UpTag) :
    s.outstanding tag = true ↔
      (∃ q ∈ s.readTracker, q.tag = tag) ∨ ∃ e ∈ s.writeQueue, e.tag = tag ∧ e.ack = .waited := by
  simp [State.outstanding]

/-- R139 for a READ, condition by condition. -/
theorem readMalformed_iff (s : State) (r : ReadRequest) :
    s.readMalformed r = true ↔
      r.address.toNat % 8 ≠ 0 ∨ r.beats < 1 ∨ 4 < r.beats ∨ 4 < r.address.toNat % 32 / 8 + r.beats ∨
        r.data ≠ [] ∨ r.masks ≠ [] ∨ (∃ q ∈ s.readTracker, q.tag = r.tag) ∨
        ∃ e ∈ s.writeQueue, e.tag = r.tag ∧ e.ack = .waited := by
  rw [← outstanding_iff]
  simp only [State.readMalformed, Bool.or_eq_true, Bool.not_eq_true', ← Bool.not_eq_true, burstOk_iff,
    List.isEmpty_iff, not_and_or, not_le, or_assoc, ne_eq]

theorem turnsAway_iff (s : State) : s.turnsAway = true ↔ s.hold ≠ .run ∨ s.drain ≠ none := by
  simp [State.turnsAway, Option.isSome_iff_ne_none]

/-- The checks of R141 in their order. -/
theorem admitRead_eq (s : State) (r : ReadRequest) :
    s.admitRead r =
      if s.readMalformed r then .answer .malformed
      else if s.turnsAway then .answer .retry
      else if s.protects r.address then .prot .journalAreaAccess
      else if (s.classify r.address).cls = .hole then .hole
      else if (s.classify r.address).cls = .journaled ∧ (s.controller = .mounting ∨ s.controller = .rollingBack) then
        .answer .retry
      else if 8 ≤ s.readTracker.length then .answer .retry
      else .read := by
  have hroom : s.readTracker.length < Config.rtCapacity ↔ ¬8 ≤ s.readTracker.length := Nat.not_le.symm
  simp only [State.admitRead, State.retriesJournaled, Bool.or_eq_true, decide_eq_true_eq, hroom, ite_not]
  cases (s.classify r.address).cls <;> rfl

section
variable {r : ReadRequest} {s : State}

theorem exec_readRequest (hr : s.rstHeld = false) : exec (.readRequest r) s = .next (arrival (takeRead r s)) := by
  show execReadRequest r s = _
  simp only [execReadRequest, hr, Bool.false_eq_true, if_false]

/-- A READ that admission answers at once changes nothing else (R137). -/
theorem exec_readRequest_answer (hr : s.rstHeld = false) {st : Status} (h : s.admitRead r = .answer st) :
    exec (.readRequest r) s = .next (s.told r.tag st []) := by
  rw [exec_readRequest hr, takeRead, h]
  rfl

theorem exec_readRequest_hole (hr : s.rstHeld = false) (h : s.admitRead r = .hole) :
    exec (.readRequest r) s = .next (s.told r.tag .ok (List.replicate r.beats onesBeat)) := by
  rw [exec_readRequest hr, takeRead, h]
  rfl

theorem exec_readRequest_prot (hr : s.rstHeld = false) {k : IncidentKind} (h : s.admitRead r = .prot k) :
    exec (.readRequest r) s =
      .next (addIncident (protectedIncident k r.address r.initiator r.tag) (s.told r.tag .protect [])) := by
  rw [exec_readRequest hr, takeRead, h]
  rfl

theorem exec_readRequest_read (hr : s.rstHeld = false) (h : s.admitRead r = .read) :
    exec (.readRequest r) s = .next (settle (acceptRead r s)) := by
  rw [exec_readRequest hr, takeRead, h]
  rfl

end

/-- One check of a request: where it applies it decides, and otherwise the next check is made. -/
theorem Verdict.checked {c A B : Prop} [Decidable c] {verdict first rest : Verdict}
    (e : verdict = if c then first else rest) (ha : verdict = first → A) (hb : verdict = rest → B) :
    if c then A else B := by
  split
  · exact ha (e.trans (if_pos ‹_›))
  · exact hb (e.trans (if_neg ‹_›))

/-- Settles O37, along the checks of R141. -/
theorem readRequestsAreAdmitted : Obligations.ReadRequestsAreAdmitted := by
  intro r s hr malformed c becomes
  have hmalformed : s.readMalformed r = true ↔ malformed := readMalformed_iff s r
  have hadmit := admitRead_eq s r
  refine ⟨fun h => ?_, fun h haway => ?_, fun h hhold hdrain => ?_⟩
  · exact exec_readRequest_answer hr (hadmit.trans (if_pos (hmalformed.mpr h)))
  all_goals rw [if_neg (mt hmalformed.mp h)] at hadmit
  · exact exec_readRequest_answer hr (hadmit.trans (if_pos ((turnsAway_iff s).mpr haway)))
  · have hstays : ¬s.turnsAway = true := by simp [turnsAway_iff, hhold, hdrain]
    rw [if_neg hstays] at hadmit
    refine Verdict.checked hadmit (exec_readRequest_prot hr) fun hadmit => ?_
    refine Verdict.checked hadmit (exec_readRequest_hole hr) fun hadmit => ?_
    refine Verdict.checked hadmit (exec_readRequest_answer hr) fun hadmit => ?_
    exact Verdict.checked hadmit (exec_readRequest_answer hr) (exec_readRequest_read hr)

end Sys2Proof.Machine
end

/-! PROOF. When data writes and reads ask for their tags (R27 to R29, R38, R41). -/
section

namespace Sys2Proof.Machine

/-! ### Data writes -/

/-- A DATA_WRITE that waits for its tag is a waiting record of an entry (R27). -/
theorem waitingWrite_iff (o : Op) : o.waitingWrite = true ↔ o.phase = .waiting ∧ ∃ p, o.requester = .entry p := by
  cases hr : o.requester <;> simp [Op.waitingWrite, Op.isWaiting, hr]

theorem writeWaits_iff (s : State) :
    s.ops.any (·.waitingWrite) = true ↔ ∃ o ∈ s.ops, o.phase = .waiting ∧ ∃ p, o.requester = .entry p := by
  simp only [List.any_eq_true, waitingWrite_iff]

/-- The gate of R28: open for an entry of relation NONE, and else once the frontier covers the entry's sequence. -/
theorem gateOpen_iff (s : State) (e : WriteEntry) :
    s.gateOpen e = true ↔
      e.relation = .none ∨ ∃ q f g, e.slotSeq = some q ∧ s.ring = some g ∧ g.frontier = some f ∧ later q f = false := by
  have hcovers (q : Word) :
      s.coversSeq q = true ↔ ∃ f g, s.ring = some g ∧ g.frontier = some f ∧ later q f = false := by
    cases hg : s.ring with
    | none => simp [State.coversSeq, hg]
    | some g => cases hf : g.frontier <;> simp [State.coversSeq, Ring.coversSeq, hg, hf]
  cases hr : e.relation with
  | none => simp [State.gateOpen, hr]
  | capture | covered =>
    cases hq : e.slotSeq with
    | none => simp [State.gateOpen, hr, hq]
    | some q => simp [State.gateOpen, hr, hq, hcovers]

/-- The six conditions of R27 for an entry. -/
theorem writeEligible_iff (s : State) (e : WriteEntry) :
    s.writeEligible e = true ↔
      e.stage = .ready ∧ s.inFlight.length < 8 ∧ (∀ f ∈ s.inFlight, f.granule ≠ e.granule) ∧
        (∀ r ∈ s.readTracker, granuleOf r.address = e.granule → e.place ≤ r.place) ∧ s.gateOpen e = true ∧
        (s.hold = .run ∨ s.modeInForce = .drain) := by
  have hroom : s.inFlight.length < Config.inFlightCapacity ↔ s.inFlight.length < 8 := Iff.rfl
  rw [← mayIssue_iff (who := .entry e.place) rfl, ← hroom]
  simp [State.writeEligible, and_assoc]

section
variable {s : State} {before after : List WriteEntry} {e : WriteEntry}

/-- The issue pointer passes the ISSUED entries (R27). -/
theorem issuePointer_of_first (hl : s.writeQueue = before ++ e :: after) (hb : ∀ x ∈ before, x.stage = .issued)
    (he : e.stage ≠ .issued) : s.issuePointer = some e :=
  find?_of_first hl (by simpa using he) fun x hx => by simp [hb x hx]

theorem dataWriteIssue_eq (h : s.issuePointer = some e) :
    dataWriteIssue? s =
      if s.writeEligible e = true ∧ s.hasOp (.entry e.place) = false ∧ s.ops.any (·.waitingWrite) = false then
        some (request .dataWrite (.entry e.place) e.address e.beats e.masks e.data s)
      else none := by
  rw [dataWriteIssue?, h]

end

/-- No data write asks while another waits for its tag (R27). -/
theorem dataWriteIssue_none_of_waiting {s : State} (h : s.ops.any (·.waitingWrite) = true) :
    dataWriteIssue? s = none := by
  cases hp : s.issuePointer with
  | none => rw [dataWriteIssue?, hp]
  | some e => rw [dataWriteIssue_eq hp, if_neg (by simp [h])]

theorem dataWriteIssue_none_of_issued {s : State} (h : ∀ e ∈ s.writeQueue, e.stage = .issued) :
    dataWriteIssue? s = none := by
  have hpointer : s.issuePointer = none := List.find?_eq_none.mpr fun e he => by simp [h e he]
  rw [dataWriteIssue?, hpointer]

/-! ### Reads -/

/-- A read that has to ask for a tag and may (R38). -/
def State.readAsks (s : State) (r : ReadEntry) : Prop :=
  r.stage = .hazardWait ∧ (∀ e ∈ s.writeQueue, e.granule = granuleOf r.address → r.place ≤ e.place) ∧
    (∀ f ∈ s.inFlight, f.granule = granuleOf r.address → f.entry ≠ none) ∧ (s.hold = .run ∨ s.modeInForce = .drain) ∧
    ∀ o ∈ s.ops, o.requester ≠ .read r.place

theorem readTest_iff (s : State) (r : ReadEntry) :
    (s.readEligible r && !s.hasOp (.read r.place)) = true ↔ s.readAsks r := by
  have hflight : s.inFlight.any (fun f => f.granule == granuleOf r.address && f.entry.isNone) = false ↔
      ∀ f ∈ s.inFlight, f.granule = granuleOf r.address → f.entry ≠ none := by
    simp [Option.ne_none_iff_isSome]
  rw [State.readAsks, ← hasOp_eq_false_iff, ← mayIssue_iff (who := .read r.place) rfl, ← hflight,
    ← writeBefore_eq_false_iff]
  simp only [State.readEligible, Bool.and_eq_true, decide_eq_true_eq, Bool.not_eq_true', and_assoc]

/-- The oldest read that has to ask and may, asks (R38). -/
theorem dataReadIssue_of_first {s : State} {before after : List ReadEntry} {r : ReadEntry}
    (hl : s.readTracker = before ++ r :: after) (hr : s.readAsks r) (hb : ∀ x ∈ before, ¬s.readAsks x) :
    dataReadIssue? s = some (request .dataRead (.read r.place) r.address r.beats [] [] s) := by
  have hfind := find?_of_first hl ((readTest_iff s r).mpr hr) fun x hx =>
    Bool.eq_false_iff.mpr (mt (readTest_iff s x).mp (hb x hx))
  rw [dataReadIssue?, hfind]

theorem dataReadIssue_none {s : State} (h : ∀ r ∈ s.readTracker, ¬s.readAsks r) : dataReadIssue? s = none := by
  rw [dataReadIssue?, List.find?_eq_none.mpr fun r hr => mt (readTest_iff s r).mp (h r hr)]

/-- Settles O44: the entry at the issue pointer and the oldest read are the ones tried, each under its conditions. -/
theorem dataOperationsIssueUnderTheirConditions : Obligations.DataOperationsIssueUnderTheirConditions := by
  refine ⟨fun before after e s hl hb he hwaits hhas => ?_,
    fun s => ⟨fun h => ?_, fun before after e hl hb he hhas => ?_⟩, fun s => ?_⟩
  · intro gate may
    have hmay : s.writeEligible e = true ↔ may := by rw [writeEligible_iff, gateOpen_iff]
    have hpointer := dataWriteIssue_eq (issuePointer_of_first hl hb he)
    have hnone : s.ops.any (·.waitingWrite) = false := Bool.eq_false_iff.mpr fun h => by
      obtain ⟨o, ho, hphase, p, hp⟩ := (writeWaits_iff s).mp h
      exact hwaits o ho hphase p hp
    refine ⟨fun h => ownStep_some ?_, fun h => ownStep_none ?_⟩
    · exact hpointer.trans (if_pos ⟨hmay.mpr h, (hasOp_eq_false_iff s _).mpr hhas, hnone⟩)
    · exact hpointer.trans (if_neg fun hall => h (hmay.mp hall.1))
  · refine ownStep_none ?_
    obtain hissued | hwaits := h
    · exact dataWriteIssue_none_of_issued hissued
    · exact dataWriteIssue_none_of_waiting ((writeWaits_iff s).mpr hwaits)
  · refine ownStep_none ((dataWriteIssue_eq (issuePointer_of_first hl hb he)).trans (if_neg ?_))
    rintro ⟨-, hnone, -⟩
    rw [(hasOp_eq_true_iff s _).mpr hhas] at hnone
    cases hnone
  · intro eligible
    refine ⟨fun before after r hl hr hbefore => ?_, fun h => ?_⟩
    · exact ownStep_some (dataReadIssue_of_first hl hr hbefore)
    · exact ownStep_none (dataReadIssue_none h)

end Sys2Proof.Machine
end

/-! PROOF. Downstream tags: requests, grants and the arbiter (R27, R39, R75, R143 to R145, R152, R153, R155, R176). -/
section

namespace Sys2Proof.Machine

/-! ### FREE tags -/

theorem tagState_free_iff (s : State) (x : DownTag) :
    s.tagState x = .free ↔ x ∉ s.quarantined ∧ ∀ p ∈ s.ops, p.phase.tag? ≠ some x := by
  unfold State.tagState
  split
  · simp_all
  · split <;> simp_all

/-- The lowest-numbered FREE tag (R145). -/
theorem freeTag_of_lowest {s : State} {x : DownTag} (hx : s.tagState x = .free) (hy : ∀ y < x, s.tagState y ≠ .free) :
    s.freeTag = some x := by
  refine List.find?_eq_some_iff_getElem.mpr ⟨by simpa using hx, x.val, by simp, by simp, fun j hj => ?_⟩
  simpa using hy ⟨j, hj.trans x.isLt⟩ hj

theorem freeTag_none {s : State} (h : ∀ x, s.tagState x ≠ .free) : s.freeTag = none :=
  List.find?_eq_none.mpr fun x _ => by simpa using h x

/-! ### Requests and grants -/

section
variable {kind : OpKind} {who : Requester} {address : Word} {beats : Nat} {masks : List Byte} {data : List Beat}
  {s : State}

/-- The record of a request (R144, R150). -/
def State.newOp (s : State) (kind : OpKind) (who : Requester) (address : Word) (beats : Nat) (masks : List Byte)
    (data : List Beat) : Op :=
  { ready := s.nextReady, kind := kind, requester := who, address := address, beats := beats, masks := masks,
    data := data, phase := .waiting, retries := 0, persisting := false, timeout := none }

/-- The state with a record that waits for its tag (R144). -/
def State.asking (s : State) (o : Op) : State := { s with ops := s.ops ++ [o], nextReady := s.nextReady + 1 }

/-- A request waits behind the records that wait before it (R145). -/
theorem request_behind (h : ∃ p ∈ s.ops, p.phase = .waiting) :
    request kind who address beats masks data s = s.asking (s.newOp kind who address beats masks data) :=
  if_pos (by simpa [Op.isWaiting] using h)

/-- A request waits while no tag is FREE (R145). -/
theorem request_without_tag (h : s.freeTag = none) :
    request kind who address beats masks data s = s.asking (s.newOp kind who address beats masks data) := by
  simp only [request, h, ite_self]
  rfl

/-- With no record waiting before it a request takes the lowest-numbered FREE tag (R145). -/
theorem request_granted {x : DownTag} (hw : ∀ p ∈ s.ops, p.phase ≠ .waiting) (h : s.freeTag = some x) :
    request kind who address beats masks data s =
      grant (s.newOp kind who address beats masks data) x (s.asking (s.newOp kind who address beats masks data)) := by
  have hnone : ¬s.ops.any (·.isWaiting) = true := by simpa [Op.isWaiting] using hw
  refine (if_neg hnone).trans ?_
  rw [h]
  rfl

end

/-- The record of a fresh place is sent under its tag: it is IN_FLIGHT with its timer started, and memory receives what
it holds (R144, R153, R155, R176). -/
theorem sendOp_fresh {s : State} {o : Op} {x : DownTag} (hr : o.ready = s.nextReady)
    (hfresh : ∀ p ∈ s.ops, p.ready ≠ s.nextReady) (n : Nat) :
    sendOp o x n (s.asking o) =
      { s with
        ops := s.ops ++
          [{ o with retries := n, phase := .inFlight x s.settings.dsTimeoutUs.toNat,
                    timeout := some s.settings.dsTimeoutUs }],
        nextReady := s.nextReady + 1,
        hold := if s.hold = .safe then .holding else s.hold,
        issues := s.issues ++
          [{ tag := x, kind := o.kind, address := o.address, beats := o.beats, masks := o.masks,
             data := o.data }] } := by
  have hothers (f : Op → Op) : s.ops.map (fun p => if p.ready = o.ready then f p else p) = s.ops :=
    (List.map_congr_left fun p hp => if_neg (by rw [hr]; exact hfresh p hp)).trans (List.map_id _)
  simp only [sendOp, leaveSafe_eq, State.setOp, State.asking, List.map_append, hothers, List.map_singleton, if_true]

section
variable {s : State} {o : Op} {x : DownTag}

theorem grant_entry {p : Nat} {e : WriteEntry} {t : State} (ho : o.requester = .entry p) (ht : sendOp o x 0 s = t)
    (he : t.entryAt p = some e) :
    grant o x s =
      { t.setEntry p (fun e => { e with stage := .issued }) with
        inFlight := t.inFlight ++ [{ granule := e.granule, tag := x, entry := some p }] } := by
  simp only [grant, requesterIssued, ho, ht, he]

theorem grant_read {p : Nat} {t : State} (ho : o.requester = .read p) (ht : sendOp o x 0 s = t) :
    grant o x s =
      { t with
        readTracker := t.readTracker.map (fun r => if r.place = p then { r with stage := .issued } else r) } := by
  simp only [grant, requesterIssued, ho, ht]

theorem grant_closer {t : State} (ho : o.requester = .closer) (ht : sendOp o x 0 s = t) :
    grant o x s = { t with closing := t.closing.map (fun c => { c with stage := .marking }) } := by
  simp only [grant, requesterIssued, ho, ht]

end

/-! ### The arbiter -/

theorem before_iff (a b : Op) :
    a.before b = true ↔
      a.kind.arbiterClass < b.kind.arbiterClass ∨
        (a.kind.arbiterClass = b.kind.arbiterClass ∧ a.ready < b.ready) := by
  simp [Op.before]

theorem before_asymm {a b : Op} (h : a.before b = true) : ¬b.before a = true := by
  rw [before_iff] at h ⊢
  omega

/-- The arbiter chooses the record that comes before every other (R145). -/
theorem bestOp_of_first {l : List Op} {o : Op} (ho : o ∈ l) (h : ∀ p ∈ l, p ≠ o → o.before p = true) :
    bestOp l = some o := by
  induction l with
  | nil => cases ho
  | cons a l ih =>
    obtain ⟨ha, hl⟩ := List.forall_mem_cons.mp h
    by_cases hao : a = o
    · subst hao
      cases hb : bestOp l with
      | none => simp only [bestOp, hb]
      | some b =>
        by_cases hba : b = a
        · simp only [bestOp, hb, hba, ite_self]
        · simp only [bestOp, hb, if_neg (before_asymm (hl b (bestOp_mem hb) hba))]
    · have hmem : o ∈ l := (List.mem_cons.mp ho).resolve_left (Ne.symm hao)
      simp only [bestOp, ih hmem hl, ha hao, if_true]

/-- Whether a record may be granted a freed tag: it waits, and its requester may issue (R145, R152). -/
theorem mem_grantable_iff (s : State) (o : Op) :
    o ∈ s.ops.filter (fun o => o.isWaiting && s.mayIssue o.requester) ↔
      o ∈ s.ops ∧ o.phase = .waiting ∧ s.mayIssue o.requester = true := by
  simp [Op.isWaiting]

/-- R152's table: any requester in RUN, in a drain hold those that it lets ask, in a freeze hold none. -/
theorem mayIssue_eq_true_iff (s : State) (who : Requester) :
    s.mayIssue who = true ↔ s.hold = .run ∨ (s.modeInForce = .drain ∧ who.asksInDrain = true) := by
  cases h : who.asksInDrain with
  | true => simp [mayIssue_iff h]
  | false => simp [mayIssue_iff_run h]

theorem tagGrant_of_first {s : State} {o : Op} {x : DownTag}
    (ho : o ∈ s.ops.filter (fun o => o.isWaiting && s.mayIssue o.requester))
    (hbest : ∀ p ∈ s.ops.filter (fun o => o.isWaiting && s.mayIssue o.requester), p ≠ o → o.before p = true)
    (hx : s.freeTag = some x) : tagGrant? s = some (grant o x s) := by
  simp only [tagGrant?, bestOp_of_first ho hbest, hx]

theorem tagGrant_none {s : State}
    (h : s.ops.filter (fun o => o.isWaiting && s.mayIssue o.requester) = [] ∨ s.freeTag = none) :
    tagGrant? s = none := by
  obtain h | h := h
  · simp only [tagGrant?, h, bestOp]
  · cases hb : bestOp (s.ops.filter (fun o => o.isWaiting && s.mayIssue o.requester)) <;> simp only [tagGrant?, hb, h]

/-- Settles O41: a request waits or is granted as its first tests say, a grant is a sending and its report to the
requester, and the arbiter's choice is the record before all others. -/
theorem tagsAreGrantedInTheArbitersOrder : Obligations.TagsAreGrantedInTheArbitersOrder := by
  constructor
  · intro kind who address beats masks data s o t free
    have hfree (x : DownTag) : s.tagState x = .free ↔ free x := tagState_free_iff s x
    refine ⟨request_behind, fun hnone => request_without_tag (freeTag_none fun x => mt (hfree x).mp (hnone x)),
      fun x hfresh hx hy => ⟨request_granted (fun p hp => (hfresh p hp).1) ?_, ?_⟩⟩
    · exact freeTag_of_lowest ((hfree x).mpr hx) fun y hyx => mt (hfree y).mp (hy y hyx)
    · intro sent
      have hsent : sendOp o x 0 t = sent := sendOp_fresh rfl (fun p hp => (hfresh p hp).2) 0
      cases who with
      | entry p => exact fun e he => grant_entry rfl hsent he
      | read p => exact grant_read rfl hsent
      | closer => exact grant_closer rfl hsent
      | _ => exact hsent
  · intro s class_ may waits free
    have hclass (o : Op) : o.kind.arbiterClass = class_ o := by
      simp only [class_]
      cases o.kind <;> rfl
    have hmay (who : Requester) : s.mayIssue who = true ↔ may who := by
      rw [mayIssue_eq_true_iff]
      cases who <;> simp [may, Requester.asksInDrain]
    have hwaits (o : Op) : o ∈ s.ops.filter (fun o => o.isWaiting && s.mayIssue o.requester) ↔ waits o := by
      rw [mem_grantable_iff, hmay]
    have hfree (x : DownTag) : s.tagState x = .free ↔ free x := tagState_free_iff s x
    refine ⟨fun o x ho hbest hx hy => ownStep_some (tagGrant_of_first ((hwaits o).mpr ho) (fun p hp hne => ?_) ?_),
      fun h => ownStep_none (tagGrant_none (h.imp (fun hnone => ?_) fun hnone => ?_))⟩
    · rw [before_iff, hclass, hclass]
      exact hbest p ((hwaits p).mp hp) hne
    · exact freeTag_of_lowest ((hfree x).mpr hx) fun y hyx => mt (hfree y).mp (hy y hyx)
    · exact List.eq_nil_iff_forall_not_mem.mpr fun o => mt (hwaits o).mp (hnone o)
    · exact freeTag_none fun x => mt (hfree x).mp (hnone x)

end Sys2Proof.Machine
end

/-! PROOF. The power-fail warning and the quiet condition (R41, R60, R78, R99, R119, R172, R174, R175, R177). -/
section

namespace Sys2Proof.Machine

/-! ### PFW -/

/-- In a hold a requester may issue where the mode in force is drain and lets it ask (R152). -/
theorem mayIssue_of_hold {s : State} (h : s.hold ≠ .run) (who : Requester) :
    s.mayIssue who = (decide (s.modeInForce = .drain) && who.asksInDrain) := by
  cases f : s.modeInForce with
  | freeze => exact mayIssue_of_freeze h f who
  | drain => exact mayIssue_of_drain h f who

/-- PFW in RUN begins the hold, and the tag requests that it forbids are cancelled (R172). -/
theorem pfwAsserted_of_run {s : State} (hr : s.rstHeld = false) (h : s.hold = .run) :
    pfwAsserted s =
      { s with
        pfw := true, hold := .holding, modeInForce := s.settings.holdMode,
        ops := s.ops.filter (fun o =>
          decide (o.phase ≠ .waiting) || (decide (s.settings.holdMode = .drain) && o.requester.asksInDrain)) } := by
  have hmay (who : Requester) :
      ({ s with pfw := true, hold := .holding, modeInForce := s.settings.holdMode } : State).mayIssue who =
        (decide (s.settings.holdMode = .drain) && who.asksInDrain) :=
      mayIssue_of_hold (show HoldState.holding ≠ .run from nofun) who
  simp only [pfwAsserted, if_pos (And.intro h hr), State.cancelWaiting, hmay, Op.isWaiting, Bool.not_and, Bool.not_or,
    Bool.not_not, decide_not, ne_eq]

/-- Elsewhere PFW changes only its line (R172). -/
theorem pfwAsserted_elsewhere {s : State} (h : s.rstHeld = true ∨ s.hold ≠ .run) :
    pfwAsserted s = { s with pfw := true } := by
  refine if_neg ?_
  rintro ⟨hrun, hheld⟩
  obtain h | h := h
  · exact absurd (h.symm.trans hheld) nofun
  · exact h hrun

/-! ### The quiet condition -/

theorem flying_iff (o : Op) : o.flying = true ↔ ∃ t n, o.phase = .inFlight t n := by
  cases h : o.phase <;> simp [Op.flying, h]

theorem openOpRecorded_iff (s : State) :
    s.openOpRecorded = true ↔ ∃ o ∈ s.ops, ∃ e q, o.requester = .openSlot e q := by
  simp only [State.openOpRecorded, List.any_eq_true]
  refine exists_congr fun o => and_congr_right fun _ => ?_
  cases o.requester <;> simp

theorem quiet_iff (s : State) :
    s.quiet = true ↔
      (∀ o ∈ s.ops, ∀ t n, o.phase ≠ .inFlight t n) ∧
        (s.modeInForce = .drain →
          s.writeQueue = [] ∧ s.closing = none ∧ ∀ o ∈ s.ops, ∀ e q, o.requester ≠ .openSlot e q) := by
  have hflying : s.ops.any (·.flying) = false ↔ ∀ o ∈ s.ops, ∀ t n, o.phase ≠ .inFlight t n := by
    simp [← Bool.not_eq_true, flying_iff]
  have hopen : s.openOpRecorded = false ↔ ∀ o ∈ s.ops, ∀ e q, o.requester ≠ .openSlot e q := by
    simp [← Bool.not_eq_true, openOpRecorded_iff]
  rw [← hflying, ← hopen, State.quiet]
  cases s.modeInForce with
  | freeze => simp
  | drain => simp [and_comm, and_left_comm]

theorem enterSafe_eq (s : State) :
    enterSafe? s =
      if s.hold = .holding ∧ s.quiet = true then some { s with hold := .safe, latched := s.latched ||| 0x10#6 }
      else none := rfl

theorem safeLine_iff (s : State) : s.safeLine = true ↔ s.hold = .safe ∧ s.rstHeld = false := by
  simp [State.safeLine]

/-- Settles O38: PFW and its release act on the hold state alone, but for the tag requests that the hold forbids; the
test of SAFE is the quiet condition. -/
theorem powerFailWarningBringsThePartToRest : Obligations.PowerFailWarningBringsThePartToRest := by
  refine ⟨fun s => ⟨fun hr h => ?_, fun h => ?_, rfl⟩, fun s => ?_⟩
  · show Host.Outcome.next (settle (pfwAsserted s)) = _
    rw [pfwAsserted_of_run hr h]
    refine congrArg (fun l => Host.Outcome.next (settle { s with
      pfw := true, hold := .holding, modeInForce := s.settings.holdMode, ops := l })) ?_
    refine List.filter_congr fun o _ => congrArg _ (congrArg _ ?_)
    cases o.requester <;> rfl
  · show Host.Outcome.next (settle (pfwAsserted s)) = _
    rw [pfwAsserted_elsewhere h]
  · intro quiet
    have hquiet : s.quiet = true ↔ quiet := quiet_iff s
    refine ⟨fun h hq => ownStep_some ?_, fun h => ownStep_none ?_, safeLine_iff s⟩
    · exact (enterSafe_eq s).trans (if_pos ⟨h, hquiet.mpr hq⟩)
    · refine (enterSafe_eq s).trans (if_neg ?_)
      rw [hquiet, not_and_or]
      exact h

end Sys2Proof.Machine
end

/-! PROOF. The acceptance of an abort (R35, R57, R86 to R88). -/
section

namespace Sys2Proof.Machine

/-- The tests of R86 in their order, and the acceptance. -/
theorem abortReply_eq (s : State) :
    abortReply s =
      if s.controller = .unmounted ∨ s.controller = .mounting then refusedReply .notMounted s
      else if s.controller = .faulted then refusedReply .wrongState s
      else if s.drain ≠ none then refusedReply .wrongState s
      else if s.hold ≠ .run then refusedReply .holding s
      else if s.controller = .rollingBack then busyReply s
      else if s.controller = .idle then refusedReply .noEpoch s
      else actReply .started (abortWords s.active) (acceptAbort s) := by
  simp only [abortReply, Option.isSome_iff_ne_none]

/-- The Epoch Controller, the Granule Filter and the Capture Engine after the acceptance of an abort of epoch `n`, in
both of its forms (R57, R87, R88). -/
def State.aborting (s : State) (n : Word) (c : Controller) : State :=
  { s with
    active := none, filter := [], autoTimer := none, pendingAuto := false, controller := c,
    captureOrder := s.captureOrder.filter (fun c => c.epoch ≠ n),
    spaceWaiter := s.spaceWaiter.filter (fun w => w.epoch ≠ n),
    captures := s.captures.map (fun c =>
      match s.entryAt c.entry with
      | some e => if e.epoch = some n then { c with mark := .abort } else c
      | none => c) }

/-- The captures in progress of an aborted epoch take the mark ABORT (R57). -/
theorem captures_marked_eq (n : Word) (s : State) :
    s.captures.map (fun c =>
        if (s.entryAt c.entry).bind (·.epoch) = some n then { c with mark := .abort } else c) =
      s.captures.map (fun c =>
        match s.entryAt c.entry with
        | some e => if e.epoch = some n then { c with mark := .abort } else c
        | none => c) :=
  List.map_congr_left fun c _ => by cases s.entryAt c.entry <;> rfl

/-- The space waiter of an aborted epoch leaves (R57). -/
theorem waiter_filter_bne (w : Option SpaceWaiter) (n : Word) :
    w.filter (fun w => w.epoch != n) = w.filter (fun w => w.epoch ≠ n) := by
  congr 1
  funext w
  rw [Bool.eq_iff_iff]
  simp

theorem abortCaptures_endActive (n : Word) (c : Controller) (s : State) :
    abortCaptures n (endActive c s) = s.aborting n c := by
  rw [State.aborting, ← filter_bne s.captureOrder (·.epoch) n, ← waiter_filter_bne]
  exact congrArg (fun l => ({ endActive c s with
    captureOrder := s.captureOrder.filter (fun k => k.epoch != n),
    spaceWaiter := s.spaceWaiter.filter (fun w => w.epoch != n), captures := l } : State)) (captures_marked_eq n s)

section
variable {s : State} {a : EpochRecord}

/-- With its OPEN allocated the epoch passes to a rollback, and its entries that are not in a capture are withdrawn
(R35, R87). -/
theorem acceptAbort_allocated {o : SlotRef} (ha : s.active = some a) (ho : a.openSlot = some o) :
    acceptAbort s =
      withdrawAll
        (s.writeQueue.filter (fun e => e.epoch = some a.number ∧
          (e.stage = .queued ∨ e.stage = .spaceWait ∨ e.stage = .ready)))
        { s.aborting a.number .rollingBack with
          rollback := some
            { epoch := a.number, undoCount := a.undoCount, abortPoint := s.nextPlace, phase := .settling,
              cursor := none, step := none, contents := none, restored := 0, abandonSlot := none } } := by
  have hleaving : s.writeQueue.filter (abortWithdraws a.number) =
      s.writeQueue.filter (fun e => e.epoch = some a.number ∧
        (e.stage = .queued ∨ e.stage = .spaceWait ∨ e.stage = .ready)) :=
    List.filter_congr fun e _ => by rw [Bool.eq_iff_iff]; simp [abortWithdraws, or_assoc]
  simp only [acceptAbort, ha, ho, Option.isSome_some, if_true, abortAllocated, hleaving]
  rw [← abortCaptures_endActive]
  rfl

/-- With its OPEN deferred the abort completes at once: every entry not ISSUED is withdrawn, and M falls by 2 (R88). -/
theorem acceptAbort_deferred (ha : s.active = some a) (ho : a.openSlot = none) :
    acceptAbort s =
      addCompletion (deferredAbortCompletion a.number)
        (withdrawAll (s.writeQueue.filter (fun e => e.epoch = some a.number ∧ e.stage ≠ .issued))
          { s.aborting a.number .idle with ring := s.ring.map (fun g => { g with owed := g.owed - 2 }) }) := by
  have hleaving : s.writeQueue.filter (fun e => e.epoch == some a.number && e.stage != .issued) =
      s.writeQueue.filter (fun e => e.epoch = some a.number ∧ e.stage ≠ .issued) :=
    List.filter_congr fun e _ => by rw [Bool.eq_iff_iff]; simp
  simp only [acceptAbort, ha, ho, Option.isSome_none, Bool.false_eq_true, if_false, abortDeferred, hleaving,
    abortCaptures_endActive, withdrawAll_eq]
  rfl

end

/-- Settles O28, along the tests of R86 and the two forms of the acceptance. -/
theorem abortEpochEndsTheActiveEpoch : Obligations.AbortEpochEndsTheActiveEpoch := by
  intro q s hr answers
  have refuse {code words} (h : abortReply s = refusal code words s) : answers (s.answered code q words) :=
    linkStep_refusal hr h
  have act {words} {t : State} (h : abortReply s = actReply .started words t) :
      answers (settle (t.answered .started q words)) := linkStep_act hr h
  refine Reply.tested (abortReply_eq s) (fun _ => refuse) fun _ e => ?_
  refine Reply.tested e (fun _ => refuse) fun _ e => ?_
  refine Reply.tested e (fun _ => refuse) fun _ e => ?_
  refine Reply.tested e (fun _ => refuse) fun _ e => ?_
  refine Reply.tested e (fun _ => refuse) fun _ e => ?_
  refine Reply.tested e (fun _ => refuse) fun _ accepts => ?_
  intro a ha t
  refine ⟨fun o ho => ?_, fun ho => ?_⟩
  · have hwords : abortWords s.active = [a.number, BitVec.ofNat 32 a.undoCount, 0] := by
      simp only [ha, abortWords, deferredWord, ho, Option.isSome_some, if_true]
      rfl
    rw [hwords, acceptAbort_allocated ha ho] at accepts
    exact act accepts
  · have hwords : abortWords s.active = [a.number, BitVec.ofNat 32 a.undoCount, 1] := by
      simp only [ha, abortWords, deferredWord, ho, Option.isSome_none, Bool.false_eq_true, if_false]
      rfl
    rw [hwords, acceptAbort_deferred ha ho] at accepts
    exact act accepts

end Sys2Proof.Machine
end

/-! PROOF. The Granule Filter that every step keeps, by the moves of Laws/Moves.lean (R44, R45, R47). -/
section

namespace Sys2Proof.Machine

/-- The Granule Filter holds no granule twice, at most 1024, and none while no epoch is ACTIVE, in the view (R44). -/
structure View.FilterSound (a : View) : Prop where
  once : a.filter.Nodup
  room : a.filter.length ≤ 1024
  clear : a.active = false → a.filter = []

theorem filterSound_iff_view (s : State) : s.FilterSound ↔ (view s).FilterSound := by
  have hlength : (view s).filter.length = s.filter.length := List.length_map ..
  have hempty : (view s).filter = [] ↔ s.filter = [] := List.map_eq_nil_iff
  have hactive : (view s).active = false ↔ s.active = none := Option.isSome_eq_false_iff.trans Option.isNone_iff_eq_none
  constructor
  · rintro ⟨once, room, clear⟩
    exact ⟨once, hlength.trans_le room, fun h => hempty.mpr (clear (hactive.mp h))⟩
  · rintro ⟨once, room, clear⟩
    exact ⟨once, hlength.symm.trans_le room, fun h => hempty.mp (clear (hactive.mpr h))⟩

/-- A view with an empty filter, as every end of the ACTIVE epoch and every reset leaves it (R47). -/
theorem View.filterSound_of_nil {a : View} (h : a.filter = []) : a.FilterSound where
  once := by rw [h]; exact List.nodup_nil
  room := by rw [h]; exact Nat.zero_le _
  clear := fun _ => h

/-- While an epoch is ACTIVE, a new granule for which there is room joins the filter (R45). -/
theorem View.FilterSound.covered {a : View} {g : Word} (h : a.FilterSound) (hactive : a.active = true)
    (hnew : g ∉ a.filter) (hroom : a.filter.length < 1024) : { a with filter := a.filter ++ [g] }.FilterSound where
  once := List.concat_eq_append ▸ h.once.concat hnew
  room := by
    rw [List.length_append]
    exact hroom
  clear := fun hnone => absurd hactive (by rw [hnone]; nofun)

/-- Granules may leave the filter at any time. -/
theorem View.FilterSound.uncovered {a : View} {f : List Word} (h : a.FilterSound) (hf : f.Sublist a.filter) :
    { a with filter := f }.FilterSound where
  once := h.once.sublist hf
  room := hf.length_le.trans h.room
  clear := fun hnone => List.eq_nil_of_sublist_nil (h.clear hnone ▸ hf)

/-- A granule joins the filter only while an epoch is ACTIVE, and every move that ends the ACTIVE epoch empties it. -/
theorem Move.keeps_filterSound {a b : View} (m : Move a b) (h : a.FilterSound) : b.FilterSound := by
  cases m with
  | covered g hactive hnew hroom => exact h.covered hactive hnew hroom
  | uncovered f hf => exact h.uncovered hf
  | opened => exact { h with clear := nofun }
  | committed => exact View.filterSound_of_nil rfl
  | aborted => exact View.filterSound_of_nil rfl
  | abortedAtOnce => exact View.filterSound_of_nil rfl
  | faulted => exact View.filterSound_of_nil rfl
  | resetPart => exact View.filterSound_of_nil rfl
  | rstHeld => exact View.filterSound_of_nil rfl
  | _ => exact { h with }

/-- Settles O9: the condition speaks of the view's filter and ACTIVE epoch, and every move keeps it. -/
theorem stepsKeepGranuleFilter : Obligations.StepsKeepGranuleFilter :=
  fun _ _ hs e => step_keeps filterSound_iff_view (fun _ _ m => m.keeps_filterSound) hs e

end Sys2Proof.Machine
end

/-! PROOF. RESET_PART and the end of its drain (R43, R149, R178, R189 to R191). -/
section

namespace Sys2Proof.Machine

/-! ### What a reset leaves -/

theorem keptInFlight_eq (s : State) :
    s.keptInFlight =
      (s.inFlight.filter (fun f => f.entry = none ∨ f.tag ∈ s.flyingTags)).map (fun f => { f with entry := none }) := by
  refine congrArg _ (List.filter_congr fun f _ => ?_)
  rw [Bool.eq_iff_iff]
  simp

/-- A RESET_PART leaves the state after reset, but for what R191 keeps, the tags it quarantines (R149), the hold state
that PFW gives (R178) and its DONE. -/
theorem resetPart_eq {s : State} (hr : s.rstHeld = false) (sequence : Byte) :
    resetPart sequence s =
      { State.reset with
        pending := s.pending, rstHeld := false, pfw := s.pfw, mcs := s.mcs, transaction := s.transaction, mdi := s.mdi,
        timebase := s.timebase, settings := s.settings, regions := s.regions, nextPlace := s.nextPlace,
        nextReady := s.nextReady, responses := s.responses, issues := s.issues,
        inFlight := (s.inFlight.filter (fun f => f.entry = none ∨ f.tag ∈ s.flyingTags)).map
          (fun f => { f with entry := none }),
        quarantined := s.quarantined ++ s.flyingTags,
        hold := if s.pfw then .holding else .run,
        modeInForce := if s.pfw then s.settings.holdMode else s.modeInForce,
        response := some (buildFrame Response.done.code sequence []) } := by
  rw [resetPart, keptInFlight_eq, ← hr]
  cases hp : s.pfw <;> simp only [holdFromPfw, clearBlocks, hp] <;> rfl

/-! ### The request -/

theorem softBusy_eq_true_iff (s : State) :
    s.softBusy = true ↔ s.controller = .mounting ∨ s.controller = .rollingBack ∨ s.closing ≠ none ∨ s.drain ≠ none := by
  simp [State.softBusy, Option.isSome_iff_ne_none, or_assoc]

/-- An argument other than 0 and 1 names no form of RESET_PART (R189). -/
theorem resetPartReply_bad {x : Word} (hx : 1 < x.toNat) (q : Byte) (s : State) :
    resetPartReply q [x] s = badReply s := by
  unfold resetPartReply
  split
  · rename_i h0
    exact absurd h0 (Nat.ne_of_gt (Nat.zero_lt_of_lt hx))
  · rename_i h1
    exact absurd h1 (Nat.ne_of_gt hx)
  · rfl

/-! ### The end of the drain -/

theorem softReset_some {s : State} {sequence : Byte} (hd : s.drain = some sequence) (hw : s.writeQueue = [])
    (ht : s.readTracker = []) : softReset? s = some (resetPart sequence s) := by
  simp [softReset?, hd, hw, ht]

/-- Without a drain, or with an entry or a read left, no soft reset takes place (R190). -/
theorem softReset_none {s : State} (h : s.drain = none ∨ s.writeQueue ≠ [] ∨ s.readTracker ≠ []) :
    softReset? s = none := by
  cases hd : s.drain with
  | none => simp [softReset?, hd]
  | some sequence =>
    simpa [softReset?, hd, imp_iff_not_or] using h

/-- Settles O31, along the argument of the request (R189) and the end of the drain (R190). -/
theorem resetPartClearsTheBlocks : Obligations.ResetPartClearsTheBlocks := by
  intro q s hr flying cleared busy
  have hreset (sequence : Byte) : resetPart sequence s = cleared sequence := resetPart_eq hr sequence
  have hsoft : counted .resetPart { sequence := q, args := [0] } s = softResetReply q s := rfl
  have hforce : counted .resetPart { sequence := q, args := [1] } s = forcedResetReply q s := rfl
  have hbusy : s.softBusy = true ↔ busy := softBusy_eq_true_iff s
  refine ⟨fun h => ?_, fun h => ?_, ?_, fun x hx => ?_, fun sequence hd hw ht => ?_, fun h => ?_⟩
  · exact linkStep_refusal hr (hsoft.trans (if_pos (hbusy.mpr h)))
  · exact linkStep_act hr (hsoft.trans (if_neg (mt hbusy.mp h)))
  · rw [forcedResetReply, hreset] at hforce
    exact linkStep_act hr hforce
  · have hbad : counted .resetPart { sequence := q, args := [x] } s = badReply s := resetPartReply_bad hx q s
    exact ⟨linkStep_refusal hr hbad, linkStep_refusal hr hbad⟩
  · rw [← hreset]
    exact ownStep_some (softReset_some hd hw ht)
  · exact ownStep_none (softReset_none h)

end Sys2Proof.Machine
end

/-! PROOF. The records of the engines in each controller state, which every step keeps, by the moves of Laws/Moves.lean
(R63, R65, R73, R79, R80, R83 to R85, R104). -/
section

namespace Sys2Proof.Machine

/-- The engines' records are those that controller state `c` has. -/
structure View.RecordsFit (a : View) (c : Controller) : Prop where
  active : a.active = decide (c = .active)
  rollback : a.rollback = decide (c = .rollingBack)
  mount : a.mount = decide (c = .mounting)
  closing : a.closing = true → c = .idle ∨ c = .active ∨ c = .rollingBack
  request : a.request = true → c = .faulted
  timer : a.timer = true → c = .active
  pending : a.pendingAuto = true → c = .active
  held : a.rstHeld = true → c = .unmounted

theorem controllerSound_iff_view (s : State) : s.ControllerSound ↔ (view s).RecordsFit (view s).controller := by
  constructor
  · rintro ⟨active, rollback, mount, closing, request, timer, pending, held⟩
    exact ⟨active, rollback, mount, closing, request, timer, pending, held⟩
  · rintro ⟨active, rollback, mount, closing, request, timer, pending, held⟩
    exact ⟨active, rollback, mount, closing, request, timer, pending, held⟩

section
variable {a : View} {c : Controller} (h : a.RecordsFit c)
include h

/-- A rollback has its record in ROLLING_BACK alone (R85). -/
theorem View.RecordsFit.rollingBack (r : a.rollback = true) : c = .rollingBack :=
  of_decide_eq_true (h.rollback.symm.trans r)

/-- A mount has its record in MOUNTING alone (R104). -/
theorem View.RecordsFit.mounting (m : a.mount = true) : c = .mounting :=
  of_decide_eq_true (h.mount.symm.trans m)

end

/-- A reset leaves the controller UNMOUNTED without a record (R84, R104). -/
theorem View.cleared_recordsFit (a : View) : a.cleared.RecordsFit .unmounted where
  active := rfl
  rollback := rfl
  mount := rfl
  closing := nofun
  request := nofun
  timer := nofun
  pending := nofun
  held := fun _ => rfl

/-- Outside a mount a fault ends every record (R81, R82, R100). -/
theorem View.faulted_recordsFit {a : View} {c : Controller} (h : a.RecordsFit c)
    (hc : c = .idle ∨ c = .active ∨ c = .rollingBack) :
    ({ a.endActive with controller := .faulted, closing := false, rollback := false } : View).RecordsFit .faulted where
  active := rfl
  rollback := rfl
  mount := h.mount.trans (by rcases hc with rfl | rfl | rfl <;> rfl)
  closing := nofun
  request := fun _ => rfl
  timer := nofun
  pending := nofun
  held := fun hheld => by
    obtain rfl := h.held hheld
    simp at hc

/-- A mount starts where no other record is left (R104, R106). -/
theorem View.mountStarts_recordsFit {a : View} {c : Controller} (h : a.RecordsFit c)
    (hc : c = .unmounted ∧ a.rstHeld = false ∨ c = .faulted) :
    ({ a with controller := .mounting, mount := true, request := false } : View).RecordsFit .mounting := by
  have hheld : a.rstHeld = true → Controller.mounting = .unmounted := fun hheld => by
    obtain rfl := h.held hheld
    simp [hheld] at hc
  rcases hc with ⟨rfl, -⟩ | rfl <;>
    exact
      { h with
        mount := rfl, closing := fun k => by simpa using h.closing k, request := nofun
        timer := (nomatch h.timer ·), pending := (nomatch h.pending ·), held := hheld }

/-- Each move to another controller state takes the records that the new state lacks and gives those that it has. -/
theorem Move.keeps_recordsFit {a b : View} (m : Move a b) (h : a.RecordsFit a.controller) :
    b.RecordsFit b.controller := by
  cases m with
  | opened t hidle =>
    rw [hidle] at h
    exact
      { h with
        active := rfl, closing := fun _ => .inr (.inl rfl), request := (nomatch h.request ·), timer := fun _ => rfl
        pending := fun _ => rfl, held := (nomatch h.held ·) }
  | timerEnds => exact { h with timer := nofun }
  | heldPending htimer => exact { h with timer := nofun, pending := fun _ => h.timer htimer }
  | committed hactive =>
    rw [hactive] at h
    exact
      { h with
        active := rfl, closing := fun _ => .inl rfl, request := (nomatch h.request ·), timer := nofun
        pending := nofun, held := (nomatch h.held ·) }
  | closed => exact { h with closing := nofun }
  | aborted hactive =>
    rw [hactive] at h
    exact
      { h with
        active := rfl, rollback := rfl, closing := fun _ => .inr (.inr rfl), request := (nomatch h.request ·)
        timer := nofun, pending := nofun, held := (nomatch h.held ·) }
  | abortedAtOnce hactive =>
    rw [hactive] at h
    exact
      { h with
        active := rfl, closing := fun _ => .inl rfl, request := (nomatch h.request ·), timer := nofun
        pending := nofun, held := (nomatch h.held ·) }
  | rolledBack hrollback =>
    rw [h.rollingBack hrollback] at h
    exact
      { h with
        rollback := rfl, closing := fun _ => .inl rfl, request := (nomatch h.request ·)
        timer := (nomatch h.timer ·), pending := (nomatch h.pending ·), held := (nomatch h.held ·) }
  | faulted hc => exact View.faulted_recordsFit h hc
  | mountStarts hc => exact View.mountStarts_recordsFit h hc
  | mounted hmount =>
    rw [h.mounting hmount] at h
    exact
      { h with
        mount := rfl, closing := fun _ => .inl rfl, request := (nomatch h.request ·)
        timer := (nomatch h.timer ·), pending := (nomatch h.pending ·), held := (nomatch h.held ·) }
  | notMounted hmount =>
    rw [h.mounting hmount] at h
    exact
      { h with
        mount := rfl, closing := fun k => by simpa using h.closing k, request := (nomatch h.request ·)
        timer := (nomatch h.timer ·), pending := (nomatch h.pending ·), held := fun _ => rfl }
  | mountWaits hfaulted => exact { h with request := fun _ => hfaulted }
  | mountDropped => exact { h with request := nofun }
  | resetPart => exact { a.cleared_recordsFit with }
  | rstHeld => exact { a.cleared_recordsFit with held := fun _ => rfl }
  | rstReleased => exact { h with held := nofun }
  | rstMounts st hheld =>
    rw [h.held hheld] at h
    have hreleased : ({ a with rstHeld := false } : View).RecordsFit .unmounted := { h with held := nofun }
    exact { View.mountStarts_recordsFit hreleased (.inl ⟨rfl, rfl⟩) with }
  | _ => exact { h with }

/-- Settles O11: the condition speaks of the controller state and of which records are present, and every move keeps
it. -/
theorem stepsKeepControllerRecords : Obligations.StepsKeepControllerRecords :=
  fun _ _ hs e => step_keeps controllerSound_iff_view (fun _ _ m => m.keeps_recordsFit) hs e

end Sys2Proof.Machine
end

/-! PROOF. The auto-commit, taken at its timer's expiry or held pending (R72, R79, R80), with the space waiter that
fails with it (R13, R34, R56). -/
section

namespace Sys2Proof.Machine

/-! ### When an auto-commit is taken -/

theorem autoCommitNow_iff (s : State) :
    s.autoCommitNow = true ↔ s.controller = .active ∧ s.closing = none ∧ s.hold = .run ∧ s.drain = none := by
  simp [State.autoCommitNow, and_assoc]

/-- An acceptance stops the timer itself, so that an expiry before it makes no difference (R72, R80). -/
theorem acceptCommit_timerEnded {s : State} {a : EpochRecord} (ha : s.active = some a) (trigger : Trigger) :
    acceptCommit trigger { s with autoTimer := none } = acceptCommit trigger s := by
  simp only [acceptCommit, ha]

theorem autoCommitExpires_now {s : State} {a : EpochRecord} (ha : s.active = some a) (ht : s.autoTimer ≠ none)
    (h : s.autoCommitNow = true) : autoCommitExpires? s = some (acceptCommit .auto s) := by
  obtain ⟨n, hn⟩ := Option.ne_none_iff_exists'.mp ht
  rw [← acceptCommit_timerEnded ha]
  simp only [autoCommitExpires?, hn, h, if_true]

theorem autoCommitExpires_later {s : State} (ht : s.autoTimer ≠ none) (h : ¬s.autoCommitNow = true) :
    autoCommitExpires? s = some { s with autoTimer := none, pendingAuto := true } := by
  obtain ⟨n, hn⟩ := Option.ne_none_iff_exists'.mp ht
  simp only [autoCommitExpires?, hn, if_neg h]

/-! ### What fails with the commit -/

theorem failEntry_controller (e : WriteEntry) (st : Status) (k : IncidentKind) (s : State) :
    (failEntry e st k s).controller = s.controller := by
  unfold failEntry
  cases e.ack <;> cases e.epoch <;> simp [countFailed]

theorem failAll_controller (es : List WriteEntry) (s : State) : (failAll es s).controller = s.controller := by
  induction es generalizing s with
  | nil => rfl
  | cons e es ih => exact (ih (failFull e s)).trans (failEntry_controller _ _ _ _)

/-- The incidents of POSTED entries of one epoch that fail for space (R34, R167). -/
theorem failAll_incidents_of_epoch {es : List WriteEntry} {n : Word} (h : ∀ e ∈ es, e.epoch = some n) (s : State) :
    (failAll es s).incidents = s.incidents ++
      ((es.filter (fun e => e.ack = .posted)).map (fun e =>
        { kind := .postedWriteNoSpace, address := some (e.granule + BitVec.ofNat 32 (8 * e.firstBeat)),
          initiator := some e.initiator, tag := some e.tag, epoch := some n, sequence := none })).take
        (16 - s.incidents.length) := by
  rw [failAll_incidents]
  refine congrArg (fun l => s.incidents ++ l.take (16 - s.incidents.length)) (List.map_congr_left fun e he => ?_)
  rw [postedIncident, h e (List.mem_of_mem_filter he)]
  rfl

/-- The entries at some places leave the queue as they fail. -/
theorem failAll_places_writeQueue (ps : List Nat) {s t : State} (h : t.writeQueue = s.writeQueue) :
    (failAll (ps.filterMap s.entryAt) t).writeQueue = s.writeQueue.filter (fun e => e.place ∉ ps) := by
  rw [failAll_writeQueue, h]
  exact List.filter_congr fun e he => decide_eq_decide.mpr (not_congr (place_mem_failing_iff he ps))

/-- The closing record counts the entries of its epoch that fail. -/
theorem failAll_closing {es : List WriteEntry} {s : State} {c : ClosingRecord} (hc : s.closing = some c)
    (h : ∀ e ∈ es, e.epoch = some c.record.number) :
    (failAll es s).closing = some { c with record := c.record.plusFailed es.length } := by
  obtain ⟨-, hclosing⟩ := failAll_records es s
  rw [hclosing, hc, Option.map_some, countOf_eq_length h, if_pos rfl]

/-- Settles O40: the acceptance of O27 with trigger AUTO, at the expiry or as soon as nothing is in the way. -/
theorem autoCommitIsTakenOrHeldPending : Obligations.AutoCommitIsTakenOrHeldPending := by
  intro a s ha hactive clear taken commits
  have hnow : s.autoCommitNow = true ↔ clear := (autoCommitNow_iff s).trans (and_iff_right hactive)
  have hcommits {x : State} (h : acceptCommit .auto s = latchAuto .auto x) : commits x := by
    refine ⟨fun ht hclear => eventOf_some ?_, fun hp hclear => ownStep_some ?_⟩
    · exact (autoCommitExpires_now ha ht (hnow.mpr hclear)).trans (congrArg some h)
    · exact (if_pos ⟨hp, hnow.mpr hclear⟩).trans (congrArg some h)
  refine ⟨fun hnone => hcommits (acceptCommit_noWaiter ha hnone .auto), fun w c hw hc hn => ?_,
    fun ht hblocked => eventOf_some (autoCommitExpires_later ht (mt hnow.mp hblocked)),
    fun h => ownStep_none (if_neg ?_)⟩
  · intro failing posted room x
    obtain ⟨es, hx, hes⟩ := failForSpace_eq_failAll c taken
    replace hx : x = failAll es (taken.withoutCapture c) := hx
    obtain ⟨horder, hfilter, hwaiter, -⟩ := failAll_rest es (taken.withoutCapture c)
    refine ⟨hcommits (acceptCommit_waiter ha hw hc hn .auto), ?_, ?_, ?_, fun hnodup hepoch => ?_⟩
    · rw [hx, hwaiter, State.withoutCapture, show taken.spaceWaiter = some w from hw]
      simp [waitingRecord_entry hw hc]
    · rw [hx, hfilter]
      rfl
    · rw [hx, horder]
      rfl
    · obtain rfl : es = failing := hes hnodup
      have hfail : ∀ e ∈ failing, e.epoch = some a.number := fun e he => by
        obtain ⟨p, hp, hpe⟩ := List.mem_filterMap.mp he
        exact hepoch p hp e hpe
      obtain ⟨hnone, -⟩ := failAll_records failing (taken.withoutCapture c)
      have hclosing := failAll_closing (s := taken.withoutCapture c) rfl hfail
      rw [hx]
      exact ⟨hclosing, hnone, failAll_controller _ _, failAll_places_writeQueue _ rfl,
        failAll_responses _ _, failAll_incidents_of_epoch hfail _⟩
  · rintro ⟨hp, hclear⟩
    rcases h with h | h
    · rw [h] at hp
      cases hp
    · exact h (hnow.mp hclear)

end Sys2Proof.Machine
end

/-! PROOF. The admission of a WRITE, with the auto-open (R68, R70, R125, R127 to R130, R137 to R140). -/
section

namespace Sys2Proof.Machine

/-! ### The checks of R140 -/

/-- R139 for a WRITE, condition by condition. -/
theorem writeMalformed_iff (s : State) (r : WriteRequest) :
    s.writeMalformed r = true ↔
      r.address.toNat % 8 ≠ 0 ∨ r.beats < 1 ∨ 4 < r.beats ∨ 4 < r.address.toNat % 32 / 8 + r.beats ∨
        r.data.length ≠ r.beats ∨ r.masks.length ≠ r.beats ∨ (∃ q ∈ s.readTracker, q.tag = r.tag) ∨
        ∃ e ∈ s.writeQueue, e.tag = r.tag ∧ e.ack = .waited := by
  rw [← outstanding_iff]
  simp only [State.writeMalformed, Bool.or_eq_true, Bool.not_eq_true', ← Bool.not_eq_true, burstOk_iff,
    decide_eq_true_eq, not_and_or, not_le, or_assoc, ne_eq]

/-- Checks 4 to 10 of R140 in their order; the queue test and check 8 have lemmas of their own. -/
theorem classifiedWrite_eq (s : State) (c : Classification) (i : Initiator) :
    s.classifiedWrite c i =
      if c.cls = .hole then .hole
      else if c.writeMask.getLsbD i.val = false then .prot .writeProtected
      else if c.cls = .plain then s.queueTest .plain c.ack
      else if s.controller = .mounting ∨ s.controller = .rollingBack then .answer .retry
      else if c.exemptMask.getLsbD i.val then s.queueTest .exempt c.ack
      else s.journaledTest c.ack := by
  have hmasked : c.writeMask.getLsbD i.val = false ↔ ¬names c.writeMask i = true := Bool.eq_false_iff
  simp only [State.classifiedWrite, State.retriesJournaled, hmasked, ite_not, Bool.or_eq_true, decide_eq_true_eq]
  cases c.cls <;> rfl

/-- The checks of R140 in their order. -/
theorem admitWrite_eq (s : State) (r : WriteRequest) :
    s.admitWrite r =
      if s.writeMalformed r then .answer .malformed
      else if s.turnsAway then .answer .retry
      else if s.protects r.address then .prot .journalAreaAccess
      else if (s.classify r.address).cls = .hole then .hole
      else if (s.classify r.address).writeMask.getLsbD r.initiator.val = false then .prot .writeProtected
      else if (s.classify r.address).cls = .plain then s.queueTest .plain (s.classify r.address).ack
      else if s.controller = .mounting ∨ s.controller = .rollingBack then .answer .retry
      else if (s.classify r.address).exemptMask.getLsbD r.initiator.val then
        s.queueTest .exempt (s.classify r.address).ack
      else s.journaledTest (s.classify r.address).ack := by
  rw [State.admitWrite, classifiedWrite_eq]

section
variable {r : WriteRequest} {s : State}

theorem exec_writeRequest (hr : s.rstHeld = false) : exec (.writeRequest r) s = .next (arrival (takeWrite r s)) := by
  show execWriteRequest r s = _
  simp only [execWriteRequest, hr, Bool.false_eq_true, if_false]

/-- A WRITE that admission answers at once changes nothing else (R137). -/
theorem exec_writeRequest_answer (hr : s.rstHeld = false) {st : Status} (h : s.admitWrite r = .answer st) :
    exec (.writeRequest r) s = .next (s.told r.tag st []) := by
  rw [exec_writeRequest hr, takeWrite, h]
  rfl

theorem exec_writeRequest_hole (hr : s.rstHeld = false) (h : s.admitWrite r = .hole) :
    exec (.writeRequest r) s = .next (s.told r.tag .ok []) := by
  rw [exec_writeRequest hr, takeWrite, h]
  rfl

theorem exec_writeRequest_prot (hr : s.rstHeld = false) {k : IncidentKind} (h : s.admitWrite r = .prot k) :
    exec (.writeRequest r) s =
      .next (addIncident (protectedIncident k r.address r.initiator r.tag) (s.told r.tag .protect [])) := by
  rw [exec_writeRequest hr, takeWrite, h]
  rfl

theorem exec_writeRequest_write (hr : s.rstHeld = false) {cls : EntryClass} {ack : AckMode}
    (h : s.admitWrite r = .write cls ack) :
    exec (.writeRequest r) s = .next (settle (acceptWrite r cls ack s)) := by
  rw [exec_writeRequest hr, takeWrite, h]
  rfl

theorem exec_writeRequest_autoOpen (hr : s.rstHeld = false) {ack : AckMode} (h : s.admitWrite r = .autoOpen ack) :
    exec (.writeRequest r) s = .next (settle (acceptWrite r .journaled ack (openEpoch .auto s))) := by
  rw [exec_writeRequest hr, takeWrite, h]
  rfl

/-- The queue test is the last check of a write that needs no auto-open (R140). -/
theorem exec_writeRequest_queueTest (hr : s.rstHeld = false) {cls : EntryClass} {ack : AckMode}
    (h : s.admitWrite r = s.queueTest cls ack) :
    if 32 ≤ s.writeQueue.length then exec (.writeRequest r) s = .next (s.told r.tag .retry [])
    else exec (.writeRequest r) s = .next (settle (acceptWrite r cls ack s)) := by
  have hroom : s.writeQueue.length < Config.wqCapacity ↔ ¬32 ≤ s.writeQueue.length := Nat.not_le.symm
  simp only [State.queueTest, hroom, ite_not] at h
  exact Verdict.checked h (exec_writeRequest_answer hr) (exec_writeRequest_write hr)

end

/-! ### The auto-open -/

/-- The queue test comes before the space test (R70). -/
theorem autoOpenTest_full {s : State} (hfull : 32 ≤ s.writeQueue.length) (ack : AckMode) :
    s.autoOpenTest ack = .answer .retry := if_neg (Nat.not_lt.mpr hfull)

/-- With room in the queue the space test decides an auto-open (R70). -/
theorem autoOpenTest_room {s : State} {g : Ring} (hroom : s.writeQueue.length < 32) (hg : s.ring = some g)
    (ack : AckMode) :
    s.autoOpenTest ack = if g.owed + 2 ≤ s.freeOf g then .autoOpen ack else .answer .journalFull := by
  have htest : s.autoOpenTest ack = if s.hasSpace 2 = true then .autoOpen ack else .answer .journalFull := if_pos hroom
  simp only [htest, hasSpace_eq hg, decide_eq_true_eq]

theorem defersOpen_iff (s : State) :
    s.defersOpen = true ↔ ∃ k, s.closing = some k ∧ k.stage = .capturing ∧ k.closeSlot = none := by
  cases hc : s.closing <;> simp [State.defersOpen, hc]

/-- The state as an epoch opens, with R66 and R79 written out. -/
theorem opening_eq (s : State) (origin : Trigger) (n : Word) :
    s.opening origin n =
      { s with
        active := some (s.openedRecord origin n), nextEpoch := some (if n = 0xFFFFFFFF#32 then 1 else n + 1),
        autoTimer := if s.settings.autoCommitMs = 0 then none else some (1000 * s.settings.autoCommitMs.toNat),
        controller := .active } := by
  rw [State.opening, epochAfter_eq]
  rfl

/-- Settles O35, along the checks of R140. -/
theorem writeRequestsAreAdmitted : Obligations.WriteRequestsAreAdmitted := by
  intro r s hr malformed c becomes answered protect queued autoOpened journaled
  have hmalformed : s.writeMalformed r = true ↔ malformed := writeMalformed_iff s r
  have hopened (g : Ring) (hg : s.ring = some g) (n : Word) (hn : s.nextEpoch = some n) :
      openEpoch .auto s = autoOpened g n := by
    have hlatch : (s.opening .auto n).latchedBelow (s.freeOf g) 1 = _ := if_congr (and_iff_right nofun) rfl rfl
    cases hd : s.defersOpen with
    | true =>
      rw [openEpoch_deferred .auto hn hg hd, opening_eq]
      refine (if_pos ?_).symm
      obtain ⟨k, hk, hcapturing, hnone⟩ := (defersOpen_iff s).mp hd
      simp [hk, hcapturing, hnone]
    | false =>
      rw [openEpoch_allocated .auto hn hg hd, hlatch, opening_eq]
      refine (if_neg ?_).symm
      rw [← Bool.not_eq_true, defersOpen_iff] at hd
      split
      · rename_i k hk
        simpa [hk] using hd
      · nofun
  have hjournaled (hready : ¬(s.controller = .mounting ∨ s.controller = .rollingBack))
      (h : s.admitWrite r = s.journaledTest c.ack) : journaled := by
    rw [State.journaledTest] at h
    dsimp only [journaled]
    cases hc : s.controller with
    | unmounted | faulted =>
      rw [hc] at h
      exact exec_writeRequest_answer hr h
    | active =>
      rw [hc] at h
      exact exec_writeRequest_queueTest hr h
    | mounting | rollingBack => simp [hc] at hready
    | idle =>
      rw [hc] at h
      cases hw : s.settings.noEpochWrite with
      | pass =>
        rw [hw] at h
        exact exec_writeRequest_queueTest hr h
      | refuse =>
        rw [hw] at h
        exact exec_writeRequest_answer hr h
      | autoOpen =>
        rw [hw] at h
        replace h : s.admitWrite r = s.autoOpenTest c.ack := h
        refine ⟨fun hfull => exec_writeRequest_answer hr (h.trans (autoOpenTest_full hfull _)),
          fun hroom g hg => ?_⟩
        rw [autoOpenTest_room hroom hg] at h
        refine ⟨fun hshort => exec_writeRequest_answer hr (h.trans (if_neg (Nat.not_le.mpr hshort))),
          fun hspace n hn => ?_⟩
        have hexec := exec_writeRequest_autoOpen hr (h.trans (if_pos hspace))
        rwa [hopened g hg n hn] at hexec
  have hadmit := admitWrite_eq s r
  refine ⟨fun h => ?_, fun h haway => ?_, fun h hhold hdrain => ?_⟩
  · exact exec_writeRequest_answer hr (hadmit.trans (if_pos (hmalformed.mpr h)))
  all_goals rw [if_neg (mt hmalformed.mp h)] at hadmit
  · exact exec_writeRequest_answer hr (hadmit.trans (if_pos ((turnsAway_iff s).mpr haway)))
  · have hstays : ¬s.turnsAway = true := by simp [turnsAway_iff, hhold, hdrain]
    rw [if_neg hstays] at hadmit
    refine Verdict.checked hadmit (exec_writeRequest_prot hr) fun hadmit => ?_
    refine Verdict.checked hadmit (exec_writeRequest_hole hr) fun hadmit => ?_
    refine Verdict.checked hadmit (exec_writeRequest_prot hr) fun hadmit => ?_
    refine Verdict.checked hadmit (exec_writeRequest_queueTest hr) fun hadmit => ?_
    split
    · exact exec_writeRequest_answer hr (hadmit.trans (if_pos ‹_›))
    · rename_i hready
      rw [if_neg hready] at hadmit
      exact Verdict.checked hadmit (exec_writeRequest_queueTest hr) (hjournaled hready)

end Sys2Proof.Machine
end

/-! PROOF. The end of SETTLING, and the restores of a rollback and of a recovery (R90, R93, R94, R99, R114, R119). -/
section

namespace Sys2Proof.Machine

/-! ### SETTLING -/

/-- SETTLING passes where no entry of the epoch remains and the frontier covers the newest slot (R90). -/
theorem rollbackSettled_eq {b : Rollback} {g : Ring} {s : State} (hb : s.rollback = some b) (hg : s.ring = some g)
    (hp : b.phase = .settling) :
    rollbackSettled? s =
      if (∀ e ∈ s.writeQueue, e.epoch ≠ some b.epoch) ∧ g.coversSeq (g.nextSeq - 1) = true then
        if b.undoCount = 0 then some (rollbackAbandon s)
        else
          some { s with
            rollback := some { b with
              phase := .replaying, step := some .reading,
              cursor := some
                { position := prevPosition s.slotsInUse g.head, sequence := g.nextSeq - 1, ordinal := b.undoCount } } }
      else none := by
  simp only [rollbackSettled?, hb, hg, hp, epochQueued_eq_false_iff, true_and, State.setRollback, Option.map_some]

/-! ### The wait of a slot read back, and its restore -/

/-- Nothing holds back the restore of a granule, condition by condition (R93, R114). -/
theorem restoreClear_iff (s : State) (granule : Word) (point : Nat) :
    s.restoreClear granule point = true ↔
      (∀ e ∈ s.writeQueue, e.granule = granule → point ≤ e.place) ∧ ∀ f ∈ s.inFlight, f.granule ≠ granule := by
  rw [← writeBefore_eq_false_iff]
  simp [State.restoreClear]

/-- The engine moves to RESTORING, giving `t`, where the granule is clear, and asks at once where it may (R93, R114). -/
def State.restoreOf (s : State) (who : Requester) (ws : List Word) (point : Nat) (t : State) : Option State :=
  if s.restoreClear (ws.getD 4 0) point then
    if s.mayIssue who = true ∧ s.hasOp who = false then some (requestRestore who ws t) else some t
  else none

/-- In RESTORING the engine makes the request again where it may (R99, R119). -/
def State.restoreAgain (s : State) (who : Requester) (ws : List Word) : Option State :=
  if s.mayIssue who = true ∧ s.hasOp who = false then some (requestRestore who ws s) else none

section
variable {s : State} {ws : List Word}

theorem rollbackRestoreIssue_waiting {b : Rollback} (hb : s.rollback = some b) (hp : b.phase = .replaying)
    (hs : b.step = some .waiting) (hc : b.contents = some ws) :
    rollbackRestoreIssue? s =
      s.restoreOf .rollback ws b.abortPoint { s with rollback := some { b with step := some .restoring } } := by
  simp only [rollbackRestoreIssue?, State.restoreOf, hb, hp, hs, hc, State.setRollback, Option.map_some]

theorem rollbackRestoreIssue_restoring {b : Rollback} (hb : s.rollback = some b) (hp : b.phase = .replaying)
    (hs : b.step = some .restoring) (hc : b.contents = some ws) :
    rollbackRestoreIssue? s = s.restoreAgain .rollback ws := by
  simp only [rollbackRestoreIssue?, State.restoreAgain, hb, hp, hs, hc]

theorem mountRestoreIssue_waiting {m : Mount} (hm : s.mount = some m) (hp : m.phase = .replaying)
    (hs : m.step = some .waiting) (hc : m.contents = some ws) :
    mountRestoreIssue? s =
      s.restoreOf .mount ws m.startPoint { s with mount := some { m with step := some .restoring } } := by
  simp only [mountRestoreIssue?, State.restoreOf, hm, hp, hs, hc, State.setMount, Option.map_some]

theorem mountRestoreIssue_restoring {m : Mount} (hm : s.mount = some m) (hp : m.phase = .replaying)
    (hs : m.step = some .restoring) (hc : m.contents = some ws) :
    mountRestoreIssue? s = s.restoreAgain .mount ws := by
  simp only [mountRestoreIssue?, State.restoreAgain, hm, hp, hs, hc]

end

section
variable {s : State} {ws : List Word} {f : State → Option State} {who : Requester}

/-- An engine that no hold lets ask, and that has one operation at a time, asks in RUN with none (R99, R119). -/
theorem mayAsk_iff (w : who.asksInDrain = false) (s : State) :
    (s.mayIssue who = true ∧ s.hasOp who = false) ↔ s.hold = .run ∧ ∀ o ∈ s.ops, o.requester ≠ who := by
  rw [mayIssue_iff_run w, hasOp_eq_false_iff]

/-- A hold, or an operation of its own, keeps such an engine from asking (R99, R119). -/
theorem not_mayAsk (w : who.asksInDrain = false) (h : s.hold ≠ .run ∨ ∃ o ∈ s.ops, o.requester = who) :
    ¬(s.mayIssue who = true ∧ s.hasOp who = false) := by
  rw [mayAsk_iff w]
  rintro ⟨hrun, hno⟩
  obtain hhold | ⟨o, ho, hr⟩ := h
  · exact hhold hrun
  · exact hno o ho hr

/-- The event of a slot that waits for its restore: a clear granule moves the step under every hold, and the request
follows the hold. -/
theorem ownStep_restoreOf {t : State} {point : Nat} (w : who.asksInDrain = false)
    (hf : f s = s.restoreOf who ws point t) :
    let clear : Prop :=
      (∀ e ∈ s.writeQueue, e.granule = ws.getD 4 0 → point ≤ e.place) ∧ ∀ x ∈ s.inFlight, x.granule ≠ ws.getD 4 0
    (clear → s.hold = .run → (∀ o ∈ s.ops, o.requester ≠ who) →
      ownStep f s = .next (settle (requestRestore who ws t))) ∧
    (clear → s.hold ≠ .run ∨ (∃ o ∈ s.ops, o.requester = who) → ownStep f s = .next (settle t)) ∧
    (¬clear → ownStep f s = .next s) := by
  intro clear
  have hclear : s.restoreClear (ws.getD 4 0) point = true ↔ clear := restoreClear_iff s _ point
  refine ⟨fun h hrun hno => ?_, fun h hkept => ?_, fun h => ?_⟩
  · exact ownStep_some (hf.trans ((if_pos (hclear.mpr h)).trans (if_pos ((mayAsk_iff w s).mpr ⟨hrun, hno⟩))))
  · exact ownStep_some (hf.trans ((if_pos (hclear.mpr h)).trans (if_neg (not_mayAsk w hkept))))
  · exact ownStep_none (hf.trans (if_neg (mt hclear.mp h)))

/-- The event of a slot whose restore has still to be asked for. -/
theorem ownStep_restoreAgain (w : who.asksInDrain = false) (hf : f s = s.restoreAgain who ws) :
    (s.hold = .run → (∀ o ∈ s.ops, o.requester ≠ who) →
      ownStep f s = .next (settle (requestRestore who ws s))) ∧
    (s.hold ≠ .run ∨ (∃ o ∈ s.ops, o.requester = who) → ownStep f s = .next s) :=
  ⟨fun hrun hno => ownStep_some (hf.trans (if_pos ((mayAsk_iff w s).mpr ⟨hrun, hno⟩))),
    fun hkept => ownStep_none (hf.trans (if_neg (not_mayAsk w hkept)))⟩

end

/-- Settles O52. SETTLING ends by `rollbackSettled_eq`; a rollback and a recovery wait and restore by one pair of
lemmas. -/
theorem replaysSettleAndRestoreInOrder : Obligations.ReplaysSettleAndRestoreInOrder := by
  intro g s hg
  refine ⟨fun b hb hp => ?_, fun ws => ?_⟩
  · intro settled
    have hpass := rollbackSettled_eq hb hg hp
    refine ⟨fun h hcount => ?_, fun h hcount => ?_, fun h => ?_⟩
    · exact ownStep_some (hpass.trans ((if_pos h).trans (if_neg hcount)))
    · refine ownStep_some (hpass.trans ((if_pos h).trans ((if_pos hcount).trans ?_)))
      rw [rollbackAbandon_eq hb hg]
      rfl
    · exact ownStep_none (hpass.trans (if_neg h))
  · intro granule clear restore
    refine ⟨fun b hb hp hs hc => ?_, fun b hb hp hs hc => ?_, fun m hm hp hs hc => ?_, fun m hm hp hs hc => ?_⟩
    · exact ownStep_restoreOf rfl (rollbackRestoreIssue_waiting hb hp hs hc)
    · exact ownStep_restoreAgain rfl (rollbackRestoreIssue_restoring hb hp hs hc)
    · exact ownStep_restoreOf rfl (mountRestoreIssue_waiting hm hp hs hc)
    · exact ownStep_restoreAgain rfl (mountRestoreIssue_restoring hm hp hs hc)

end Sys2Proof.Machine
end

/-! PROOF. RST#: its assertion, its release, and the requests of either port while it is held (R102, R103, R148, R149,
R178, R192). -/
section

namespace Sys2Proof.Machine

/-! ### Assertion -/

/-- The assertion leaves the state after reset, but for the lines, the counters, the settings and the mode in force,
which run on (R149, R192). -/
theorem rstAsserted_eq (s : State) :
    rstAsserted s =
      { State.reset with
        pending := s.pending, rstHeld := true, pfw := s.pfw, mcs := s.mcs, mdi := s.mdi, timebase := s.timebase,
        settings := s.settings, nextPlace := s.nextPlace, nextReady := s.nextReady, modeInForce := s.modeInForce,
        responses := s.responses, issues := s.issues } := rfl

/-! ### Release -/

/-- The part as RST# is released, before a recovery that the straps ask for (R102, R178, R192). -/
def State.released (st : Straps) (s : State) : State :=
  { s with
    rstHeld := false, settings := defaultSettings st, hold := if s.pfw then .holding else .run, modeInForce := .drain,
    transaction := if s.mcs then some (openTransaction emptyFrame) else none }

/-- Under PFW the mode in force is the default HOLD_MODE, which is the mode without PFW too. -/
theorem holdFromPfw_of_defaults {x : State} (hm : x.modeInForce = .drain) (hs : x.settings.holdMode = .drain) :
    holdFromPfw x = { x with hold := if x.pfw then .holding else .run } := by
  unfold holdFromPfw
  cases x.pfw with
  | false => rfl
  | true => rw [hs, ← hm]; rfl

/-- The release of a held RST# (R102, R103). -/
theorem rstReleased_of_held {s : State} (hr : s.rstHeld = true) (st : Straps) :
    rstReleased st s =
      if st.autoRecover = true ∧ st.jsize ≠ 0 then startMount .recover .auto 0 (s.released st)
      else s.released st := by
  unfold rstReleased
  rw [if_pos hr, holdFromPfw_of_defaults rfl rfl]
  rfl

theorem rstReleased_of_not_held {s : State} (hr : s.rstHeld = false) (st : Straps) : rstReleased st s = s :=
  if_neg (Bool.eq_false_iff.mp hr)

theorem execRstRelease_eq {st : Straps} {s x : State} (h : rstReleased st s = x) :
    execRstRelease st s = .next (settle x) := by
  rw [execRstRelease, h]

/-! ### Requests while RST# is held -/

section
variable {s : State}

theorem execWriteRequest_of_held (hr : s.rstHeld = true) (r : WriteRequest) : execWriteRequest r s = .next s :=
  congrArg Host.Outcome.next (if_pos hr)

theorem execReadRequest_of_held (hr : s.rstHeld = true) (r : ReadRequest) : execReadRequest r s = .next s :=
  congrArg Host.Outcome.next (if_pos hr)

/-- The release of MCS# under RST# ends the transaction, whatever request it carried (R192). -/
theorem takeReply_of_held (hr : s.rstHeld = true) (sequence : Byte) (reply : State → Reply) :
    takeReply sequence reply s = { s with mcs := false, transaction := none } :=
  if_pos hr

theorem linkStep_of_held (hr : s.rstHeld = true) (c : LinkCommand) (r : LinkRequest) :
    linkStep c r s = .next { s with mcs := false, transaction := none } :=
  congrArg Host.Outcome.next (takeReply_of_held hr _ _)

theorem execUnknownCommand_of_held (hr : s.rstHeld = true) (code : Byte) (r : LinkRequest) :
    execUnknownCommand code r s = .next { s with mcs := false, transaction := none } :=
  congrArg Host.Outcome.next (takeReply_of_held hr _ _)

theorem execFrameError_of_held (hr : s.rstHeld = true) (bits : List Bool) :
    execFrameError bits s = .next { s with mcs := false, transaction := none } := by
  unfold execFrameError
  cases judgeFrame bits with
  | error echo => exact congrArg Host.Outcome.next (takeReply_of_held hr _ _)
  | ok f => exact congrArg Host.Outcome.next (takeReply_of_held hr _ _)

end

/-- Settles O32: the assertion by its fields, the release along the straps that ask for a recovery (R103), and every row
of the link by the release of MCS# that they share. -/
theorem hardwareResetAndItsRelease : Obligations.HardwareResetAndItsRelease := by
  refine ⟨fun s => congrArg Host.Outcome.next (rstAsserted_eq s), ?_, fun st s hr => ?_,
    fun s hr => ⟨execWriteRequest_of_held hr, execReadRequest_of_held hr, fun r code bits => ?_⟩⟩
  · intro st s hr t
    have ht : s.released st = t := rfl
    have hrel := rstReleased_of_held hr st
    rw [ht] at hrel
    refine ⟨fun h => execRstRelease_eq (hrel.trans (if_neg ?_)),
      fun ha hj => execRstRelease_eq (hrel.trans (if_pos ⟨ha, hj⟩))⟩
    rw [not_and_or, Bool.not_eq_true, not_not]
    exact h
  · exact execRstRelease_eq (rstReleased_of_not_held hr st)
  · have row (c : LinkCommand) := linkStep_of_held hr c r
    simp only [List.forall_mem_cons, List.not_mem_nil, false_imp_iff, implies_true, and_true]
    exact ⟨row .nop, row .readStatus, row .beginEpoch, row .commitEpoch, row .abortEpoch, row .formatJournal,
      row .recoverJournal, row .setParam, row .getParam, row .writeRegion, row .readRegion, row .readAlerts,
      row .clearAlerts, row .popIncident, row .popCompletion, row .resetPart, row .resetPart,
      execFrameError_of_held hr bits, execUnknownCommand_of_held hr code r⟩

end Sys2Proof.Machine
end

/-! PROOF. The settings and region entries that every step keeps acceptable, by the moves of Laws/Moves.lean (R102,
R121, R132, R186). -/
section

namespace Sys2Proof.Machine

/-- Every setting is acceptable (R186) and every valid region entry is (R121), in the view. -/
structure View.Configured (a : View) : Prop where
  settings : a.settings.legal = true
  regions : ∀ r, some r ∈ a.regions → r.legal = true

theorem configured_iff_view (s : State) : s.Configured ↔ (view s).Configured :=
  ⟨fun h => ⟨h.settings, h.regions⟩, fun h => ⟨h.settings, h.regions⟩⟩

/-- The base that any strap setting gives is a multiple of 65536 (R102, R186). -/
theorem strapBase_aligned (v : Fin 4) : (strapBase v).toNat % 65536 = 0 := by decide +revert

/-- The journal size that any strap setting gives is 0 or a valid one (R102, R186). -/
theorem strapSlots_acceptable (v : Fin 4) :
    strapSlots v = 0#32 ∨
      (1024 ≤ (strapSlots v).toNat ∧ (strapSlots v).toNat ≤ 262144 ∧ (strapSlots v).toNat % 256 = 0) := by
  decide +revert

/-- The settings at the release of RST# are acceptable, whatever the straps (R102, R186). -/
theorem defaultSettings_legal (st : Straps) : (defaultSettings st).legal = true := by
  simp [Settings.legal, defaultSettings, strapBase_aligned, strapSlots_acceptable]

/-- Only SET_PARAM and the release of RST# give settings, and only WRITE_REGION and the assertion of RST# region
entries: each gives acceptable ones. -/
theorem Move.keeps_configured {a b : View} (m : Move a b) (h : a.Configured) : b.Configured := by
  cases m with
  | setting t ht => exact { h with settings := ht h.settings }
  | region i x hx =>
    refine { h with regions := fun r hr => ?_ }
    rcases List.mem_or_eq_of_mem_set hr with hr | hr
    · exact h.regions r hr
    · exact hx r hr.symm
  | rstHeld => exact { h with regions := fun r hr => absurd (List.eq_of_mem_replicate hr) nofun }
  | rstReleased st => exact { h with settings := defaultSettings_legal st }
  | rstMounts st => exact { h with settings := defaultSettings_legal st }
  | _ => exact { h with }

/-- Settles O8: the condition speaks of the view's settings and regions, and every move keeps it. -/
theorem stepsKeepConfiguration : Obligations.StepsKeepConfiguration :=
  fun _ _ hs e => step_keeps configured_iff_view (fun _ _ m => m.keeps_configured) hs e

end Sys2Proof.Machine
end

/-! PROOF. The Region Table's requests (R132, R133). -/
section

namespace Sys2Proof.Machine

/-! ### Arguments and results of the region requests -/

/-- The arguments that WRITE_REGION accepts (R132). -/
def AcceptableRegion (base exponent cls ack masks : Word) : Prop :=
  12 ≤ exponent.toNat ∧ exponent.toNat ≤ 32 ∧ base.toNat % 2 ^ exponent.toNat = 0
    ∧ (cls = 1#32 ∨ cls = 2#32 ∨ cls = 3#32) ∧ (ack = 0#32 ∨ ack = 1#32) ∧ masks.toNat < 65536

/-- The entry that accepted arguments describe (R132). -/
def describedRegion (base exponent cls ack masks : Word) : Region where
  base := base
  exponent := exponent.toNat
  cls := if cls = 1#32 then .plain else if cls = 2#32 then .journaled else .hole
  writeMask := masks.extractLsb' 0 8
  exemptMask := masks.extractLsb' 8 8
  ack := if ack = 0#32 then .posted else .waited

theorem regionClassOf_eq (c : Word) :
    regionClassOf c =
      if c = 1#32 then some .plain else if c = 2#32 then some .journaled else if c = 3#32 then some .hole
      else none := by
  unfold regionClassOf
  simp only [← BitVec.toNat_inj]
  split <;> simp_all

theorem ackModeOf_eq (a : Word) :
    ackModeOf a = if a = 0#32 then some .posted else if a = 1#32 then some .waited else none := by
  unfold ackModeOf
  simp only [← BitVec.toNat_inj]
  split <;> simp_all

/-- The upper half of a word is zero where its value is below 65536 (R132). -/
theorem extractLsb'_high_eq_zero_iff (m : Word) : m.extractLsb' 16 16 = 0#16 ↔ m.toNat < 65536 := by
  rw [← BitVec.toNat_inj, BitVec.extractLsb'_toNat, Nat.shiftRight_eq_div_pow]
  have := m.isLt
  simp only [BitVec.toNat_ofNat]
  omega

section
variable {b e c a m : Word}

theorem regionOfArgs_of_acceptable (h : AcceptableRegion b e c a m) :
    regionOfArgs b e c a m = some (describedRegion b e c a m) := by
  obtain ⟨hlow, hhigh, haligned, hcls, hack, hmasks⟩ := h
  have hhalf : m.extractLsb' 16 16 = 0#16 := (extractLsb'_high_eq_zero_iff m).mpr hmasks
  have hc : regionClassOf c = some (describedRegion b e c a m).cls := by
    rcases hcls with rfl | rfl | rfl <;> rfl
  have ha : ackModeOf a = some (describedRegion b e c a m).ack := by
    rcases hack with rfl | rfl <;> rfl
  simp only [regionOfArgs, hc, ha]
  exact if_pos ⟨hlow, hhigh, haligned, hhalf⟩

theorem acceptable_of_regionOfArgs {r : Region} (h : regionOfArgs b e c a m = some r) :
    AcceptableRegion b e c a m := by
  unfold regionOfArgs at h
  split at h
  next hc ha =>
    split at h
    next hrange =>
      obtain ⟨hlow, hhigh, haligned, hmasks⟩ := hrange
      refine ⟨hlow, hhigh, haligned, ?_, ?_, (extractLsb'_high_eq_zero_iff m).mp hmasks⟩
      · rw [regionClassOf_eq] at hc
        grind
      · rw [ackModeOf_eq] at ha
        grind
    next => cases h
  next => cases h

theorem regionOfArgs_of_not_acceptable (h : ¬AcceptableRegion b e c a m) : regionOfArgs b e c a m = none :=
  Option.eq_none_iff_forall_ne_some.mpr fun _ hr => h (acceptable_of_regionOfArgs hr)

end

/-- The word of the two masks of an entry (R132). -/
theorem wordOfBytes_masks (w x : Byte) : wordOfBytes w x 0 0 = w.zeroExtend 32 ||| x.zeroExtend 32 <<< 8 := by
  refine BitVec.eq_of_getLsbD_eq fun i hi => ?_
  simp only [wordOfBytes, BitVec.getLsbD_append, BitVec.getLsbD_or, BitVec.getLsbD_shiftLeft,
    BitVec.truncate_eq_setWidth, BitVec.getLsbD_setWidth]
  grind

/-- The result words of a valid entry (R132, R133). -/
theorem regionWords_some (r : Region) :
    regionWords (some r) =
      [1, r.base, BitVec.ofNat 32 r.exponent, r.cls.code, r.ack.code,
       r.writeMask.zeroExtend 32 ||| r.exemptMask.zeroExtend 32 <<< 8] := by
  rw [← wordOfBytes_masks]
  rfl

/-! ### WRITE_REGION and READ_REGION -/

/-- A request whose owner answers DONE, no other block concerned, leaves its answer pending (R183). -/
theorem linkStep_done {l : LinkCommand} {r : LinkRequest} {s t : State} {words : List Word} (hr : s.rstHeld = false)
    (h : counted l r s = doneReply words t) : linkStep l r s = .next (t.answered .done r.sequence words) := by
  simp only [linkStep, takeReply, hr, Bool.false_eq_true, if_false, h]
  rfl

/-- A request with a number of arguments that its command does not take is answered BAD_ARGUMENT (R184). -/
theorem counted_of_not_takes {l : LinkCommand} {r : LinkRequest} (h : l.takes r.args.length = false) (s : State) :
    counted l r s = badReply s := by
  rw [counted, h]
  rfl

section
variable {q : Byte} {i b e c a m : Word} {s : State}

theorem writeRegionReply_outside (hi : 15 < i.toNat) (rest : List Word) : writeRegionReply (i :: rest) s = badReply s :=
  if_pos hi

theorem readRegionReply_outside (hi : 15 < i.toNat) : readRegionReply [i] s = badReply s := if_pos hi

theorem writeRegionReply_clear (hi : i.toNat ≤ 15) :
    writeRegionReply [i] s = doneReply [] { s with regions := s.regions.set i.toNat none } :=
  if_neg (Nat.not_lt.mpr hi)

theorem writeRegionReply_replace (hi : i.toNat ≤ 15) :
    writeRegionReply [i, b, e, c, a, m] s =
      match regionOfArgs b e c a m with
      | none => badReply s
      | some r => doneReply [] { s with regions := s.regions.set i.toNat (some r) } :=
  if_neg (Nat.not_lt.mpr hi)

theorem readRegionReply_inside (hi : i.toNat ≤ 15) :
    readRegionReply [i] s = doneReply (regionWords (s.regions[i.toNat]?).join) s := by
  have h : s.regions.getD i.toNat none = (s.regions[i.toNat]?).join := by
    rw [List.getD_eq_getElem?_getD]
    cases s.regions[i.toNat]? <;> rfl
  rw [← h]
  exact if_neg (Nat.not_lt.mpr hi)

end

/-- Settles O22: the argument count, the index and the arguments in the order in which the Region Table judges them. -/
theorem regionsAreWrittenAndRead : Obligations.RegionsAreWrittenAndRead := by
  intro q i b e c a m s hr acceptable
  refine ⟨fun args h1 => ⟨?_, fun h6 => ?_⟩, fun hi => ⟨?_, ?_, ?_⟩, fun hi => ⟨?_, fun hbad => ?_, fun hok => ?_, ?_⟩⟩
  · exact linkStep_refusal hr (counted_of_not_takes (by simpa [LinkCommand.takes] using h1) s)
  · exact linkStep_refusal hr (counted_of_not_takes (by simp [LinkCommand.takes, h1, h6]) s)
  · exact linkStep_refusal hr (writeRegionReply_outside hi [])
  · exact linkStep_refusal hr (writeRegionReply_outside hi [b, e, c, a, m])
  · exact linkStep_refusal hr (readRegionReply_outside hi)
  · exact linkStep_done hr (writeRegionReply_clear hi)
  · refine linkStep_refusal hr ((writeRegionReply_replace hi).trans ?_)
    rw [regionOfArgs_of_not_acceptable hbad]
    rfl
  · refine ⟨describedRegion b e c a m, linkStep_done hr ((writeRegionReply_replace hi).trans ?_), rfl, rfl, rfl, rfl,
      rfl, rfl⟩
    rw [regionOfArgs_of_acceptable hok]
  · refine (linkStep_done (l := .readRegion) (r := ⟨q, [i]⟩) hr (readRegionReply_inside hi)).trans ?_
    cases (s.regions[i.toNat]?).join with
    | none => rfl
    | some r =>
      rw [regionWords_some]
      rfl

end Sys2Proof.Machine
end

/-! PROOF. What an event leaves as it is, whatever blocks it passes through: the settings, the region table, the input
lines, the link's transaction, time and the queues of the model. -/
section

namespace Sys2Proof.Machine

/-- The settings, the region table, and the lines PFW and RST#. -/
structure Setup where
  settings : Settings
  regions : List (Option Region)
  pfw : Bool
  rstHeld : Bool

/-- What the blocks work before: the setup, MCS# with its transaction and the bits on MDI, the timebase, the queue of
commands and the acceptance order. -/
structure Backdrop where
  setup : Setup
  mcs : Bool
  transaction : Option Transaction
  mdi : List Bool
  timebase : Nat
  pending : List Instr
  nextPlace : Nat

def State.setup (s : State) : Setup :=
  { settings := s.settings, regions := s.regions, pfw := s.pfw, rstHeld := s.rstHeld }

def State.backdrop (s : State) : Backdrop :=
  { setup := s.setup, mcs := s.mcs, transaction := s.transaction, mdi := s.mdi, timebase := s.timebase,
    pending := s.pending, nextPlace := s.nextPlace }

theorem setup_of_backdrop {s t : State} (h : t.backdrop = s.backdrop) : t.setup = s.setup :=
  congrArg Backdrop.setup h

/-- An effect that may be absent keeps the backdrop of the state that it finds. -/
def Kept (s : State) (effect : Option State) : Prop := ∀ t, effect = some t → t.backdrop = s.backdrop

theorem Kept.absent {s : State} : Kept s none := fun _ h => nomatch h

theorem Kept.present {s t : State} (h : t.backdrop = s.backdrop) : Kept s (some t) := by
  rintro _ ⟨⟩
  exact h

/-! ### Shared operations -/

section
variable (s : State)

theorem addIncident_backdrop (i : Incident) : (addIncident i s).backdrop = s.backdrop := by
  simp [State.backdrop, State.setup]

theorem addCompletion_backdrop (c : Completion) : (addCompletion c s).backdrop = s.backdrop := by
  simp [State.backdrop, State.setup]

theorem leaveSafe_backdrop : (leaveSafe s).backdrop = s.backdrop := by
  simp [State.backdrop, State.setup]

theorem requesterIssued_backdrop (o : Op) (t : DownTag) : (requesterIssued o t s).backdrop = s.backdrop := by
  unfold requesterIssued
  repeat' split
  all_goals rfl

theorem sendOp_backdrop (o : Op) (t : DownTag) (n : Nat) : (sendOp o t n s).backdrop = s.backdrop :=
  leaveSafe_backdrop _

theorem grant_backdrop (o : Op) (t : DownTag) : (grant o t s).backdrop = s.backdrop :=
  (requesterIssued_backdrop _ _ _).trans (sendOp_backdrop _ _ _ _)

theorem request_backdrop (kind : OpKind) (who : Requester) (a : Word) (b : Nat) (m : List Byte) (d : List Beat) :
    (request kind who a b m d s).backdrop = s.backdrop := by
  unfold request
  dsimp only
  repeat' split
  exacts [rfl, grant_backdrop _ _ _, rfl]

theorem spaceLowTest_backdrop (b a : Nat) : (spaceLowTest b a s).backdrop = s.backdrop := by
  unfold spaceLowTest
  split <;> rfl

theorem allocate_backdrop {s s' : State} {slot : SlotRef} (h : allocate s = some (slot, s')) :
    s'.backdrop = s.backdrop := by
  obtain ⟨_, _, rfl⟩ := allocate_rest h
  rfl

theorem countFailed_backdrop (n : Option Word) : (countFailed n s).backdrop = s.backdrop := by
  cases n <;> rfl

theorem answerWaited_backdrop (e : WriteEntry) (st : Status) : (answerWaited e st s).backdrop = s.backdrop := by
  unfold answerWaited
  split <;> rfl

theorem failEntry_backdrop (e : WriteEntry) (st : Status) (k : IncidentKind) :
    (failEntry e st k s).backdrop = s.backdrop := by
  refine (countFailed_backdrop _ _).trans ?_
  cases e.ack with
  | posted => exact addIncident_backdrop _ _
  | waited => rfl

theorem withdraw_backdrop (e : WriteEntry) : (withdraw e s).backdrop = s.backdrop := answerWaited_backdrop _ _ _

theorem foldl_backdrop {α : Type} {f : State → α → State} (h : ∀ s x, (f s x).backdrop = s.backdrop) (l : List α)
    (s : State) : (l.foldl f s).backdrop = s.backdrop := by
  induction l generalizing s with
  | nil => rfl
  | cons x l ih => exact (ih _).trans (h s x)

theorem withdrawAll_backdrop (es : List WriteEntry) : (withdrawAll es s).backdrop = s.backdrop :=
  foldl_backdrop (fun s e => withdraw_backdrop s e) es s

/-! ### Captures and data operations -/

/-- An accepted write takes a place of the acceptance order (R23). -/
theorem acceptWrite_backdrop (r : WriteRequest) (cls : EntryClass) (ack : AckMode) :
    (acceptWrite r cls ack s).backdrop = { s.backdrop with nextPlace := s.nextPlace + 1 } := by
  have answered (x : State) : (answerPosted ack r.tag x).backdrop = x.backdrop := by cases ack <;> rfl
  unfold acceptWrite enqueueCovered
  rw [answered]
  repeat' split
  all_goals rfl

theorem dataWriteIssue_kept : Kept s (dataWriteIssue? s) := by
  unfold dataWriteIssue?
  repeat' split
  exacts [.absent, .present (request_backdrop ..), .absent]

theorem dataReadIssue_kept : Kept s (dataReadIssue? s) := by
  unfold dataReadIssue?
  split
  exacts [.absent, .present (request_backdrop ..)]

theorem allocateUndo_kept (c : CaptureRecord) : Kept s (allocateUndo c s) := by
  unfold allocateUndo
  split
  · exact .absent
  · rename_i h
    exact .present (allocate_backdrop h :)

theorem failForSpace_backdrop (c : CaptureRecord) : (failForSpace c s).backdrop = s.backdrop := by
  refine foldl_backdrop (fun s p => ?_) _ _
  split
  exacts [failEntry_backdrop _ _ _ _, rfl]

theorem noSpace_backdrop (c : CaptureRecord) (e : WriteEntry) : (noSpace c e s).backdrop = s.backdrop := by
  unfold noSpace
  split
  exacts [failForSpace_backdrop _ _, rfl]

theorem captureStart_kept : Kept s (captureStart? s) := by
  unfold captureStart?
  repeat' split
  exacts [.absent, allocateUndo_kept _ _, .present (noSpace_backdrop ..), .absent, .absent]

theorem spaceGranted_kept : Kept s (spaceGranted? s) := by
  unfold spaceGranted?
  repeat' split
  exacts [.absent, allocateUndo_kept { s with spaceWaiter := none } _, .absent]

theorem spaceWaitExpires_kept : Kept s (spaceWaitExpires? s) := by
  unfold spaceWaitExpires?
  repeat' split
  exacts [.present (failForSpace_backdrop ..), .absent, .absent]

theorem captureIssue_kept : Kept s (captureIssue? s) := by
  unfold captureIssue? requestCapture
  repeat' split
  exacts [.absent, .present (request_backdrop ..), .present (request_backdrop ..), .absent]

/-! ### The Epoch Controller -/

theorem allocateOpen_backdrop : (allocateOpen s).backdrop = s.backdrop := by
  unfold allocateOpen
  split
  · rename_i h
    exact (allocate_backdrop h :)
  · rfl

theorem latchAuto_backdrop (t : Trigger) : (latchAuto t s).backdrop = s.backdrop := by cases t <;> rfl

theorem openEpoch_backdrop (t : Trigger) : (openEpoch t s).backdrop = s.backdrop := by
  refine (latchAuto_backdrop _ _).trans ?_
  split
  exacts [rfl, allocateOpen_backdrop _]

theorem openWriteIssue_kept : Kept s (openWriteIssue? s) := by
  unfold openWriteIssue?
  repeat' split
  exacts [.absent, .absent, .present (request_backdrop ..)]

theorem failWaiterOf_backdrop (n : Word) : (failWaiterOf n s).backdrop = s.backdrop := by
  unfold failWaiterOf
  repeat' split
  exacts [failForSpace_backdrop _ _, rfl, rfl]

theorem acceptCommit_backdrop (t : Trigger) : (acceptCommit t s).backdrop = s.backdrop := by
  unfold acceptCommit
  split
  exacts [rfl, (latchAuto_backdrop _ _).trans (failWaiterOf_backdrop _ _)]

theorem closerCapturingDone_kept : Kept s (closerCapturingDone? s) := by
  unfold closerCapturingDone?
  split
  · exact .absent
  split
  · split
    · exact .absent
    · rename_i h
      have kept := allocate_backdrop h
      dsimp only
      repeat' split
      exacts [.present ((allocateOpen_backdrop _).trans kept), .present kept, .present kept]
  · exact .absent

theorem closeWriteIssue_kept : Kept s (closeWriteIssue? s) := by
  unfold closeWriteIssue?
  repeat' split
  exacts [.absent, .absent, .present (request_backdrop ..), .absent]

theorem anchorClaimIssue_kept : Kept s (anchorClaimIssue? s) := by
  unfold anchorClaimIssue?
  repeat' split
  exacts [.absent, .absent, .present (request_backdrop ..)]

theorem autoCommitExpires_kept : Kept s (autoCommitExpires? s) := by
  unfold autoCommitExpires?
  repeat' split
  exacts [.absent, .present (acceptCommit_backdrop ..), .present rfl]

theorem pendingAutoCommit_kept : Kept s (pendingAutoCommit? s) := by
  unfold pendingAutoCommit?
  split
  exacts [.present (acceptCommit_backdrop ..), .absent]

theorem reportCloser_backdrop (was : Option ClosingRecord) : (reportCloser was s).backdrop = s.backdrop := by
  unfold reportCloser
  repeat' split
  exacts [rfl, rfl, addCompletion_backdrop _ _]

theorem reportRollback_backdrop (was : Option Rollback) : (reportRollback was s).backdrop = s.backdrop := by
  cases was with
  | none => rfl
  | some r => exact addCompletion_backdrop _ _

theorem faultController_backdrop : (faultController s).backdrop = s.backdrop := rfl

theorem faultCaptures_backdrop : (faultCaptures s).backdrop = s.backdrop := rfl

theorem faultRing_backdrop : (faultRing s).backdrop = s.backdrop := rfl

theorem faultOps_backdrop (was : State) : (faultOps was s).backdrop = s.backdrop := rfl

theorem enterFaulted_backdrop : (enterFaulted s).backdrop = s.backdrop := by
  unfold enterFaulted
  split
  · rw [reportRollback_backdrop, reportCloser_backdrop, withdrawAll_backdrop, faultOps_backdrop, faultRing_backdrop,
      faultCaptures_backdrop, faultController_backdrop]
  · rfl

/-! ### The Rollback Engine -/

theorem acceptAbort_backdrop : (acceptAbort s).backdrop = s.backdrop := by
  unfold acceptAbort
  repeat' split
  exacts [rfl, withdrawAll_backdrop _ _, (addCompletion_backdrop _ _).trans (withdrawAll_backdrop _ _)]

theorem rollbackAbandon_backdrop : (rollbackAbandon s).backdrop = s.backdrop := by
  unfold rollbackAbandon
  split
  · rfl
  · rename_i h
    exact (allocate_backdrop h :)

theorem rollbackSettled_kept : Kept s (rollbackSettled? s) := by
  unfold rollbackSettled?
  repeat' split
  exacts [.present (rollbackAbandon_backdrop s), .present rfl, .absent, .absent]

theorem rollbackIssue_kept : Kept s (rollbackIssue? s) := by
  unfold rollbackIssue?
  repeat' split
  exacts [.absent, .present (request_backdrop ..), .present (request_backdrop ..), .absent, .absent]

theorem rollbackRestoreIssue_kept : Kept s (rollbackRestoreIssue? s) := by
  unfold rollbackRestoreIssue?
  dsimp only
  repeat' split
  exacts [.absent, .present (request_backdrop ..), .present rfl, .absent, .present (request_backdrop ..), .absent,
    .absent]

theorem rollbackReadOk_backdrop (ws : List Word) : (rollbackReadOk ws s).backdrop = s.backdrop := by
  unfold rollbackReadOk
  repeat' split
  exacts [rfl, rfl, rfl, (enterFaulted_backdrop _).trans (addIncident_backdrop _ _)]

theorem rollbackRestoreOk_backdrop : (rollbackRestoreOk s).backdrop = s.backdrop := by
  unfold rollbackRestoreOk
  dsimp only
  repeat' split
  exacts [rfl, rfl, rollbackAbandon_backdrop _, rfl]

theorem rollbackAbandonOk_backdrop : (rollbackAbandonOk s).backdrop = s.backdrop := by
  unfold rollbackAbandonOk
  dsimp only
  repeat' split
  all_goals rfl

theorem rollbackOpFailed_backdrop (o : Op) : (rollbackOpFailed o s).backdrop = s.backdrop := by
  unfold rollbackOpFailed
  split
  exacts [rfl, (enterFaulted_backdrop _).trans (addIncident_backdrop _ _)]

theorem rollbackOpOk_backdrop (o : Op) (data : List Beat) : (rollbackOpOk o data s).backdrop = s.backdrop := by
  unfold rollbackOpOk
  split
  exacts [rollbackReadOk_backdrop _ _, rollbackRestoreOk_backdrop _, rollbackAbandonOk_backdrop _]

theorem rollbackComplete_backdrop : (rollbackComplete s).backdrop = s.backdrop := by
  unfold rollbackComplete
  split
  exacts [rfl, addCompletion_backdrop _ _]

/-! ### The Mount Engine -/

theorem mountFromFaulted_kept : Kept s (mountFromFaulted? s) := by
  unfold mountFromFaulted?
  repeat' split
  exacts [.absent, .present rfl, .absent]

theorem endMount_backdrop (o : LongOutcome) : (endMount o s).backdrop = s.backdrop := by
  unfold endMount
  split
  exacts [rfl, addCompletion_backdrop _ _]

theorem mountSpaceTest_backdrop : (mountSpaceTest s).backdrop = s.backdrop := by
  unfold mountSpaceTest
  repeat' split
  all_goals rfl

theorem completeMount_backdrop (o : LongOutcome) (next last : Word) :
    (completeMount o next last s).backdrop = s.backdrop := by
  unfold completeMount
  split
  exacts [rfl, (addCompletion_backdrop _ _).trans (mountSpaceTest_backdrop _)]

theorem structureError_backdrop (e : Option Word) (q : Word) : (structureError e q s).backdrop = s.backdrop :=
  (endMount_backdrop _ _).trans (addIncident_backdrop _ _)

theorem beginScan_backdrop (c : Chosen) : (beginScan c s).backdrop = s.backdrop := by
  unfold beginScan
  split
  exacts [rfl, structureError_backdrop _ _ _]

theorem recoverChoose_backdrop (m : Mount) : (recoverChoose m s).backdrop = s.backdrop := by
  unfold recoverChoose
  dsimp only
  repeat' split
  exacts [endMount_backdrop _ _, endMount_backdrop _ _, beginScan_backdrop _ _, beginScan_backdrop _ _,
    beginScan_backdrop _ _, beginScan_backdrop _ _, endMount_backdrop _ _]

theorem anchorReadDone_backdrop (c : Copy) (f : Finding) : (anchorReadDone c f s).backdrop = s.backdrop := by
  unfold anchorReadDone
  dsimp only
  split
  · rfl
  split
  · split
    exacts [rfl, recoverChoose_backdrop _ _]
  · rfl

theorem recoverAnchor_backdrop : (recoverAnchor s).backdrop = s.backdrop := by
  unfold recoverAnchor
  split <;> rfl

theorem recoverAbandon_backdrop : (recoverAbandon s).backdrop = s.backdrop := by
  unfold recoverAbandon
  split
  · rfl
  · rename_i h
    exact (allocate_backdrop h :)

theorem scanStops_backdrop (p : SlotRef) : (scanStops p s).backdrop = s.backdrop := by
  unfold scanStops
  dsimp only
  repeat' split
  exacts [rfl, rfl, recoverAnchor_backdrop _, recoverAbandon_backdrop _, rfl]

theorem scanAccepts_backdrop (p : SlotRef) (ws : List Word) (sh : Shape) :
    (scanAccepts p ws sh s).backdrop = s.backdrop := by
  unfold scanAccepts
  dsimp only
  split
  · rfl
  split
  exacts [scanStops_backdrop _ _, rfl]

theorem scanReadOk_backdrop (ws : List Word) : (scanReadOk ws s).backdrop = s.backdrop := by
  unfold scanReadOk
  dsimp only
  repeat' split
  exacts [rfl, scanAccepts_backdrop _ _ _ _, structureError_backdrop _ _ _, scanStops_backdrop _ _, rfl]

theorem mountReplayReadOk_backdrop (ws : List Word) : (mountReplayReadOk ws s).backdrop = s.backdrop := by
  unfold mountReplayReadOk
  repeat' split
  exacts [rfl, rfl, (endMount_backdrop _ _).trans (addIncident_backdrop _ _), rfl]

theorem mountRestoreOk_backdrop : (mountRestoreOk s).backdrop = s.backdrop := by
  unfold mountRestoreOk
  dsimp only
  repeat' split
  exacts [rfl, rfl, recoverAbandon_backdrop _, rfl]

theorem mountAbandonOk_backdrop : (mountAbandonOk s).backdrop = s.backdrop := by
  unfold mountAbandonOk
  split
  · rfl
  · refine (recoverAnchor_backdrop _).trans ?_
    split <;> rfl

theorem mountOpOk_backdrop (o : Op) (data : List Beat) : (mountOpOk o data s).backdrop = s.backdrop := by
  unfold mountOpOk
  repeat' split
  exacts [rfl, scanReadOk_backdrop _ _, mountReplayReadOk_backdrop _ _, mountRestoreOk_backdrop _,
    mountAbandonOk_backdrop _]

theorem mountIncident_backdrop (o : Op) (m : Mount) : (mountIncident o m s).backdrop = s.backdrop := by
  unfold mountIncident
  dsimp only
  split
  exacts [rfl, addIncident_backdrop _ _, addIncident_backdrop _ _, addIncident_backdrop _ _]

theorem mountOpFailed_backdrop (o : Op) : (mountOpFailed o s).backdrop = s.backdrop := by
  unfold mountOpFailed
  split
  exacts [rfl, (endMount_backdrop _ _).trans (mountIncident_backdrop _ _ _)]

theorem mountAnchorOk_backdrop : (mountAnchorOk s).backdrop = s.backdrop := by
  unfold mountAnchorOk
  repeat' split
  exacts [rfl, rfl, completeMount_backdrop _ _ _ _, rfl]

theorem recoverAnchorOk_backdrop (w : AnchorWrite) : (recoverAnchorOk w s).backdrop = s.backdrop := by
  unfold recoverAnchorOk
  split
  exacts [rfl, completeMount_backdrop _ _ _ _]

theorem mountIssue_kept : Kept s (mountIssue? s) := by
  unfold mountIssue?
  repeat' split
  exacts [.absent, .present (request_backdrop ..), .present (request_backdrop ..), .absent, .absent,
    .present (request_backdrop ..), .absent, .absent, .present (request_backdrop ..), .absent, .absent,
    .present (request_backdrop ..), .absent, .absent, .absent]

theorem mountRestoreIssue_kept : Kept s (mountRestoreIssue? s) := by
  unfold mountRestoreIssue?
  dsimp only
  repeat' split
  exacts [.absent, .present (request_backdrop ..), .present rfl, .absent, .present (request_backdrop ..), .absent,
    .absent]

/-! ### Memory's answers -/

theorem entryOk_backdrop (p : Nat) : (entryOk p s).backdrop = s.backdrop := by
  unfold entryOk
  split
  exacts [rfl, answerWaited_backdrop _ _ _]

theorem entryFailed_backdrop (late : Bool) (p : Nat) : (entryFailed late p s).backdrop = s.backdrop := by
  unfold entryFailed
  split
  exacts [rfl, failEntry_backdrop _ _ _ _]

theorem readEnds_backdrop (p : Nat) (st : Status) (data : List Beat) :
    (readEnds p st data s).backdrop = s.backdrop := by
  unfold readEnds
  split <;> rfl

theorem readFailed_backdrop (p : Nat) : (readFailed p s).backdrop = s.backdrop := by
  unfold readFailed
  split
  exacts [rfl, readEnds_backdrop _ _ _ _]

theorem undoReadOk_backdrop (p : Nat) (data : List Beat) : (undoReadOk p data s).backdrop = s.backdrop := by
  unfold undoReadOk
  repeat' split
  exacts [withdraw_backdrop _ _, rfl, rfl]

theorem undoSlotAcked_backdrop (p : Nat) : (undoSlotAcked p s).backdrop = s.backdrop := by
  unfold undoSlotAcked
  dsimp only
  repeat' split
  exacts [rfl, withdraw_backdrop _ _, rfl]

theorem captureFailed_backdrop (p : Nat) : (captureFailed p s).backdrop = s.backdrop := by
  unfold captureFailed
  split
  · refine (enterFaulted_backdrop _).trans ((addIncident_backdrop _ _).trans ?_)
    exact failEntry_backdrop _ _ _ _
  · rfl

theorem openFailed_backdrop (e q : Word) : (openFailed e q s).backdrop = s.backdrop :=
  (enterFaulted_backdrop _).trans (addIncident_backdrop _ _)

theorem closeOk_backdrop : (closeOk s).backdrop = s.backdrop := by
  unfold closeOk
  repeat' split
  exacts [rfl, rfl, addCompletion_backdrop _ _]

theorem closeFailed_backdrop : (closeFailed s).backdrop = s.backdrop := by
  unfold closeFailed
  split
  exacts [rfl, (enterFaulted_backdrop _).trans (addIncident_backdrop _ _)]

theorem anchorReport_backdrop (w : AnchorWrite) : (anchorReport w s).backdrop = s.backdrop := by
  unfold anchorReport
  repeat' split
  exacts [rfl, rollbackComplete_backdrop _, rfl, mountAnchorOk_backdrop _, recoverAnchorOk_backdrop _ _]

theorem anchorFailed_backdrop (w : AnchorWrite) : (anchorFailed w s).backdrop = s.backdrop := by
  unfold anchorFailed
  dsimp only
  split
  exacts [(endMount_backdrop _ _).trans (addIncident_backdrop _ _),
    (enterFaulted_backdrop _).trans (addIncident_backdrop _ _)]

theorem orphanOk_backdrop (w : Orphan) : (orphanOk w s).backdrop = s.backdrop := by cases w <;> rfl

theorem orphanFailed_backdrop (w : Orphan) : (orphanFailed w s).backdrop = s.backdrop := by
  cases w with
  | slotRead => rfl
  | _ => exact addIncident_backdrop _ _

theorem finalOk_backdrop (o : Op) (data : List Beat) : (finalOk o data s).backdrop = s.backdrop := by
  unfold finalOk
  repeat' split
  exacts [entryOk_backdrop _ _, readEnds_backdrop _ _ _ _, undoReadOk_backdrop _ _ _, undoSlotAcked_backdrop _ _, rfl,
    closeOk_backdrop _, rollbackOpOk_backdrop _ _ _, mountOpOk_backdrop _ _ _, anchorReadDone_backdrop _ _ _,
    anchorReport_backdrop _ _, orphanOk_backdrop _ _]

theorem finalFail_backdrop (o : Op) (late : Bool) : (finalFail o late s).backdrop = s.backdrop := by
  unfold finalFail
  split
  exacts [entryFailed_backdrop _ _ _, readFailed_backdrop _ _, captureFailed_backdrop _ _, openFailed_backdrop _ _ _,
    closeFailed_backdrop _, rollbackOpFailed_backdrop _ _, mountOpFailed_backdrop _ _, anchorReadDone_backdrop _ _ _,
    anchorFailed_backdrop _ _, orphanFailed_backdrop _ _]

theorem busyOp_backdrop (o : Op) (t : DownTag) : (busyOp o t s).backdrop = s.backdrop := by
  unfold busyOp
  repeat' split
  exacts [rfl, finalFail_backdrop _ _ _, addIncident_backdrop _ _]

theorem answerOp_backdrop (o : Op) (t : DownTag) (a : MemoryAnswer) (data : List Beat) :
    (answerOp o t a data s).backdrop = s.backdrop := by
  unfold answerOp
  repeat' split
  exacts [finalOk_backdrop _ _ _, finalFail_backdrop _ _ _, busyOp_backdrop _ _ _, finalFail_backdrop _ _ _]

theorem answer_kept (t : DownTag) (a : MemoryAnswer) (data : List Beat) : Kept s (answer? t a data s) := by
  unfold answer?
  repeat' split
  exacts [.present rfl, .absent, .present (answerOp_backdrop ..)]

theorem timeout_kept (t : DownTag) : Kept s (timeout? t s) := by
  unfold timeout?
  split
  exacts [.absent, .present ((finalFail_backdrop _ _ _).trans (addIncident_backdrop _ _))]

/-! ### The part's own steps -/

theorem tagGrant_kept : Kept s (tagGrant? s) := by
  unfold tagGrant?
  split
  exacts [.present (grant_backdrop ..), .absent]

theorem reissueAt_kept (t : DownTag) : Kept s (reissueAt? t s) := by
  unfold reissueAt?
  repeat' split
  exacts [.absent, .present (sendOp_backdrop ..), .absent]

theorem reissue_kept : Kept s (reissue? s) := by
  unfold reissue?
  repeat' split
  exacts [.absent, .present (sendOp_backdrop ..), .absent]

theorem enterSafe_kept : Kept s (enterSafe? s) := by
  unfold enterSafe?
  split
  exacts [.present rfl, .absent]

theorem holdFromPfw_backdrop : (holdFromPfw s).backdrop = s.backdrop := by
  unfold holdFromPfw
  split <;> rfl

theorem resetPart_backdrop (q : Byte) : (resetPart q s).backdrop = s.backdrop := holdFromPfw_backdrop _

theorem softReset_kept : Kept s (softReset? s) := by
  unfold softReset?
  repeat' split
  exacts [.absent, .present (resetPart_backdrop ..), .absent]

end

/-- None of the part's own steps touches the backdrop. -/
theorem internalSteps_kept : ∀ f ∈ internalSteps, ∀ s, Kept s (f s) := by
  simp only [internalSteps, List.forall_mem_cons, List.not_mem_nil, false_imp_iff, implies_true, and_true]
  exact ⟨tagGrant_kept, reissue_kept, spaceGranted_kept, captureStart_kept, closerCapturingDone_kept,
    rollbackSettled_kept, pendingAutoCommit_kept, mountFromFaulted_kept, openWriteIssue_kept, captureIssue_kept,
    closeWriteIssue_kept, anchorClaimIssue_kept, rollbackIssue_kept, rollbackRestoreIssue_kept, mountIssue_kept,
    mountRestoreIssue_kept, dataWriteIssue_kept, dataReadIssue_kept, softReset_kept, enterSafe_kept⟩

theorem settle_backdrop (s : State) : (settle s).backdrop = s.backdrop :=
  settle_induct (P := fun s t => t.backdrop = s.backdrop) (fun _ => rfl) (fun _ _ _ h g => g.trans h)
    internalSteps_kept s

theorem settle_setup (s : State) : (settle s).setup = s.setup := setup_of_backdrop (settle_backdrop s)

end Sys2Proof.Machine
end

/-! PROOF. The commands that change the settings, the region table and the lines PFW and RST# (R121, R132, R172, R177,
R186, R187, R192). -/
section

namespace Sys2Proof.Machine

/-! ### The requests of either port -/

section
variable (s : State)

theorem takeWrite_setup (r : WriteRequest) : (takeWrite r s).1.setup = s.setup := by
  have accepted (x : State) (cls : EntryClass) (ack : AckMode) : (acceptWrite r cls ack x).setup = x.setup :=
    congrArg Backdrop.setup (acceptWrite_backdrop x r cls ack)
  unfold takeWrite
  split
  exacts [rfl, rfl, setup_of_backdrop (addIncident_backdrop _ _), accepted _ _ _,
    (accepted _ _ _).trans (setup_of_backdrop (openEpoch_backdrop _ _)), rfl]

theorem takeRead_setup (r : ReadRequest) : (takeRead r s).1.setup = s.setup := by
  unfold takeRead
  split
  exacts [rfl, rfl, setup_of_backdrop (addIncident_backdrop _ _), rfl, rfl]

theorem arrival_setup {s : State} {p : State × Bool} (h : p.1.setup = s.setup) : (arrival p).setup = s.setup := by
  unfold arrival
  split
  exacts [(settle_setup _).trans h, h]

/-- The requests of the M-link that say nothing of the settings or the region table keep them, and no request drives an
input line. -/
theorem reply_setup {l : LinkCommand} (hp : l ≠ .setParam) (hw : l ≠ .writeRegion) (q : Byte) (args : List Word) :
    (l.reply q args s).state.setup = s.setup := by
  cases l with
  | setParam => exact absurd rfl hp
  | writeRegion => exact absurd rfl hw
  | nop | readStatus | readAlerts => rfl
  | beginEpoch =>
    dsimp only [LinkCommand.reply, beginReply]
    repeat' split
    exacts [rfl, rfl, rfl, rfl, rfl, rfl, setup_of_backdrop (openEpoch_backdrop _ _)]
  | commitEpoch =>
    dsimp only [LinkCommand.reply, commitReply]
    repeat' split
    exacts [rfl, rfl, rfl, rfl, rfl, rfl, rfl, setup_of_backdrop (acceptCommit_backdrop _ _)]
  | abortEpoch =>
    dsimp only [LinkCommand.reply, abortReply]
    repeat' split
    exacts [rfl, rfl, rfl, rfl, rfl, rfl, setup_of_backdrop (acceptAbort_backdrop _)]
  | formatJournal | recoverJournal =>
    dsimp only [LinkCommand.reply, mountReply]
    repeat' split
    all_goals rfl
  | getParam =>
    dsimp only [LinkCommand.reply, getParamReply]
    split <;> rfl
  | readRegion =>
    dsimp only [LinkCommand.reply, readRegionReply]
    split <;> rfl
  | clearAlerts =>
    dsimp only [LinkCommand.reply, clearAlertsReply]
    split <;> rfl
  | popIncident =>
    dsimp only [LinkCommand.reply, popIncidentReply]
    split <;> rfl
  | popCompletion =>
    dsimp only [LinkCommand.reply, popCompletionReply]
    split <;> rfl
  | resetPart =>
    dsimp only [LinkCommand.reply, resetPartReply, softResetReply]
    repeat' split
    exacts [rfl, rfl, setup_of_backdrop (resetPart_backdrop _ _), rfl]

theorem setParamReply_setup (args : List Word) :
    ∃ t, (setParamReply args s).state.setup = { s.setup with settings := t } := by
  unfold setParamReply
  dsimp only
  repeat' split
  exacts [⟨_, rfl⟩, ⟨_, rfl⟩, ⟨_, rfl⟩]

theorem writeRegionReply_setup (args : List Word) :
    ∃ l, (writeRegionReply args s).state.setup = { s.setup with regions := l } := by
  unfold writeRegionReply
  dsimp only
  repeat' split
  exacts [⟨_, rfl⟩, ⟨_, rfl⟩, ⟨_, rfl⟩, ⟨_, rfl⟩, ⟨_, rfl⟩]

/-- A condition on the setup that holds before a request and after its owner's answer holds where the argument count
decides between the two (R184). -/
theorem counted_setup {P : Setup → Prop} {l : LinkCommand} {r : LinkRequest} (before : P s.setup)
    (after : P (l.reply r.sequence r.args s).state.setup) : P (counted l r s).state.setup := by
  unfold counted
  split
  exacts [after, before]

/-- The release of MCS# adds nothing to what the owner makes of the setup. -/
theorem takeReply_setup {P : Setup → Prop} {q : Byte} {reply : State → Reply} (before : P s.setup)
    (after : P (reply s).state.setup) : P (takeReply q reply s).setup := by
  unfold takeReply
  split
  · exact before
  · dsimp only
    split
    · rw [settle_setup]
      exact after
    · exact after

theorem linkStep_setup {P : Setup → Prop} {l : LinkCommand} {r : LinkRequest} {s t : State} (before : P s.setup)
    (after : P (l.reply r.sequence r.args s).state.setup) (g : linkStep l r s = .next t) : P t.setup := by
  cases g
  exact takeReply_setup s before (counted_setup s before after)

/-- A request that says nothing of the settings or the region table keeps the setup. -/
theorem linkStep_keeps {l : LinkCommand} {r : LinkRequest} {s t : State} (g : linkStep l r s = .next t)
    (hp : l ≠ .setParam) (hw : l ≠ .writeRegion) : t.setup = s.setup :=
  linkStep_setup (P := (· = s.setup)) rfl (reply_setup s hp hw _ _) g

end

/-! ### Commands -/

section
variable {s t : State}

theorem eventOf_keeps {e : Option State} (h : Kept s e) (g : eventOf e s = .next t) : t.setup = s.setup := by
  cases g
  split
  · exact (settle_setup _).trans (setup_of_backdrop (h _ rfl))
  · rfl

theorem ownStep_keeps {f : State → Option State} (h : Kept s (f s)) (g : ownStep f s = .next t) :
    t.setup = s.setup := by
  cases g
  unfold internalStep
  split
  · rename_i hf
    exact (settle_setup _).trans (setup_of_backdrop (h _ hf))
  · rfl

theorem finalAnswer_keeps {d : DownTag} {a : FinalAnswer} {data : List Beat} (g : finalAnswer d a data s = .next t) :
    t.setup = s.setup :=
  eventOf_keeps (answer_kept s _ _ _) g

/-- Bits that form no frame and codes that the table lacks reach no owner (R182, R184). -/
theorem refusal_keeps (q : Byte) (code : Response) : (takeReply q (refusal code []) s).setup = s.setup :=
  takeReply_setup (P := (· = s.setup)) s rfl rfl

theorem execFrameError_keeps {bits : List Bool} (hw : badBits bits = true) (g : execFrameError bits s = .next t) :
    t.setup = s.setup := by
  unfold badBits at hw
  unfold execFrameError at g
  split at g
  · cases g
    exact refusal_keeps _ _
  · rename_i hb
    rw [hb] at hw
    cases hw

theorem execUnknownCommand_keeps {code : Byte} {r : LinkRequest} (hw : linkCommand code = none)
    (g : execUnknownCommand code r s = .next t) : t.setup = s.setup := by
  cases g
  have hd : dispatch code r = refusal .unknownCommand [] := by
    funext x
    rw [dispatch, hw]
  rw [hd]
  exact refusal_keeps _ _

theorem pfwAsserted_setup (s : State) : (pfwAsserted s).setup = { s.setup with pfw := true } := by
  unfold pfwAsserted
  dsimp only
  split <;> rfl

theorem rstReleased_setup (st : Straps) (s : State) :
    (rstReleased st s).setup =
      if s.rstHeld then { s.setup with rstHeld := false, settings := defaultSettings st } else s.setup := by
  cases hr : s.rstHeld with
  | false => rw [rstReleased_of_not_held hr]; rfl
  | true =>
    rw [rstReleased_of_held hr]
    split <;> rfl

end

/-- What a command may make of the setup: the settings change by SET_PARAM and the release of RST# (R186, R192), the
region table by WRITE_REGION and the assertion of RST# (R121, R132), and the lines by their own events. -/
def Setup.ChangesBy (c : Instr) (a b : Setup) : Prop :=
  match c with
  | .setParam _ => ∃ t, b = { a with settings := t }
  | .writeRegion _ => ∃ l, b = { a with regions := l }
  | .pfwAssert => b = { a with pfw := true }
  | .pfwRelease => b = { a with pfw := false }
  | .rstAssert => b = { a with rstHeld := true, regions := List.replicate 16 none }
  | .rstRelease st => b = if a.rstHeld then { a with rstHeld := false, settings := defaultSettings st } else a
  | _ => b = a

theorem exec_setup {c : Instr} {s t : State} (hw : c.wf = true) (g : exec c s = .next t) :
    s.setup.ChangesBy c t.setup := by
  cases c with
  | setParam r =>
    exact linkStep_setup (l := .setParam) (P := fun b => ∃ u, b = { s.setup with settings := u }) ⟨_, rfl⟩
      (setParamReply_setup s r.args) g
  | writeRegion r =>
    exact linkStep_setup (l := .writeRegion) (P := fun b => ∃ u, b = { s.setup with regions := u }) ⟨_, rfl⟩
      (writeRegionReply_setup s r.args) g
  | pfwAssert =>
    cases g
    exact (settle_setup _).trans (pfwAsserted_setup s)
  | pfwRelease =>
    cases g
    exact settle_setup _
  | rstAssert =>
    cases g
    rfl
  | rstRelease st =>
    cases g
    exact (settle_setup _).trans (rstReleased_setup st s)
  | writeRequest r =>
    cases g
    split
    exacts [rfl, arrival_setup (takeWrite_setup s r)]
  | readRequest r =>
    cases g
    split
    exacts [rfl, arrival_setup (takeRead_setup s r)]
  | nop | readStatus | beginEpoch | commitEpoch | abortEpoch | formatJournal | recoverJournal | getParam | readRegion
  | readAlerts | clearAlerts | popIncident | popCompletion | resetPartSoft | resetPartForce =>
    exact linkStep_keeps g nofun nofun
  | frameError bits => exact execFrameError_keeps hw g
  | unknownCommand code r =>
    obtain ⟨-, hcode⟩ := Bool.and_eq_true_iff.mp hw
    exact execUnknownCommand_keeps (Option.isNone_iff_eq_none.mp hcode) g
  | mcsAsserted =>
    cases g
    repeat' split
    all_goals rfl
  | spaceWaitExpiry => exact eventOf_keeps (spaceWaitExpires_kept s) g
  | autoCommitExpiry => exact eventOf_keeps (autoCommitExpires_kept s) g
  | dsTimeout tag => exact eventOf_keeps (timeout_kept s tag) g
  | busyAnswer | lateAnswer => exact eventOf_keeps (answer_kept s _ _ _) g
  | dataWriteAnswer | dataReadAnswer | undoReadAnswer | undoSlotWriteAnswer | openSlotWriteAnswer
  | closeSlotWriteAnswer | anchorWriteAnswer | rollbackSlotReadAnswer | rollbackRestoreAnswer | rollbackAbandonAnswer
  | anchorReadAnswer | formatAnchorWriteAnswer | scanSlotReadAnswer | mountReplayReadAnswer | mountRestoreAnswer
  | mountAbandonAnswer | orphanOperationAnswer =>
    exact finalAnswer_keeps g
  | softResetTakesPlace => exact ownStep_keeps (softReset_kept s) g
  | enterSafe => exact ownStep_keeps (enterSafe_kept s) g
  | spaceGranted => exact ownStep_keeps (spaceGranted_kept s) g
  | pendingAutoCommitTaken => exact ownStep_keeps (pendingAutoCommit_kept s) g
  | reissue tag => exact ownStep_keeps (reissueAt_kept s tag) g
  | tagGrant => exact ownStep_keeps (tagGrant_kept s) g
  | dataWriteIssue => exact ownStep_keeps (dataWriteIssue_kept s) g
  | dataReadIssue => exact ownStep_keeps (dataReadIssue_kept s) g
  | captureStart => exact ownStep_keeps (captureStart_kept s) g
  | closerCapturingDone => exact ownStep_keeps (closerCapturingDone_kept s) g
  | closeWriteIssue => exact ownStep_keeps (closeWriteIssue_kept s) g
  | anchorClaimIssue => exact ownStep_keeps (anchorClaimIssue_kept s) g
  | rollbackSettled => exact ownStep_keeps (rollbackSettled_kept s) g
  | rollbackRestoreIssue => exact ownStep_keeps (rollbackRestoreIssue_kept s) g
  | mountRestoreIssue => exact ownStep_keeps (mountRestoreIssue_kept s) g
  | mountFromFaulted => exact ownStep_keeps (mountFromFaulted_kept s) g

/-- What a command may make of the setup, read field by field. -/
theorem Setup.ChangesBy.fields {c : Instr} {a b : Setup} (h : a.ChangesBy c b) :
    ((∃ r, c = .setParam r) ∨ (∃ st, c = .rstRelease st) ∨ b.settings = a.settings) ∧
    ((∃ r, c = .writeRegion r) ∨ c = .rstAssert ∨ b.regions = a.regions) ∧
    (c = .pfwAssert ∨ c = .pfwRelease ∨ b.pfw = a.pfw) ∧
    (c = .rstAssert ∨ (∃ st, c = .rstRelease st) ∨ b.rstHeld = a.rstHeld) := by
  unfold Setup.ChangesBy at h
  split at h
  · obtain ⟨_, rfl⟩ := h
    exact ⟨.inl ⟨_, rfl⟩, .inr (.inr rfl), .inr (.inr rfl), .inr (.inr rfl)⟩
  · obtain ⟨_, rfl⟩ := h
    exact ⟨.inr (.inr rfl), .inl ⟨_, rfl⟩, .inr (.inr rfl), .inr (.inr rfl)⟩
  · subst h
    exact ⟨.inr (.inr rfl), .inr (.inr rfl), .inl rfl, .inr (.inr rfl)⟩
  · subst h
    exact ⟨.inr (.inr rfl), .inr (.inr rfl), .inr (.inl rfl), .inr (.inr rfl)⟩
  · subst h
    exact ⟨.inr (.inr rfl), .inr (.inl rfl), .inr (.inr rfl), .inl rfl⟩
  · subst h
    refine ⟨.inr (.inl ⟨_, rfl⟩), .inr (.inr ?_), .inr (.inr ?_), .inr (.inl ⟨_, rfl⟩)⟩
    · split <;> rfl
    · split <;> rfl
  · subst h
    exact ⟨.inr (.inr rfl), .inr (.inr rfl), .inr (.inr rfl), .inr (.inr rfl)⟩

/-- Settles O5: what each command may make of the setup, read field by field. -/
theorem settingsRegionsAndLinesChangeOnlyByTheirCommands :
    Obligations.SettingsRegionsAndLinesChangeOnlyByTheirCommands :=
  fun _ _ _ hw g => (exec_setup hw g).fields

end Sys2Proof.Machine
end

/-! PROOF. The downstream tags and the places of the ready order that every step keeps distinct, by the moves of
Laws/Moves.lean (R144, R145, R149, R155). -/
section

namespace Sys2Proof.Machine

/-- The tags that operation records hold and the QUARANTINED tags, in the view. -/
def View.usedTags (a : View) : List DownTag := a.ops.filterMap (·.tag) ++ a.quarantined

/-- Tags and places are distinct, and the places are given out in order, in the view. -/
structure View.TagsSound (a : View) : Prop where
  tags : a.usedTags.Nodup
  places : (a.ops.map (·.ready)).Nodup
  fresh : ∀ k ∈ a.ops, k.ready < a.nextReady

theorem tagsSound_iff_view (s : State) : s.TagsSound ↔ (view s).TagsSound := by
  have htags : (view s).usedTags = s.usedTags := congrArg (· ++ s.quarantined) (List.filterMap_map ..)
  have hplaces : (view s).ops.map (·.ready) = s.ops.map (·.ready) := List.map_map
  have hfresh : (∀ k ∈ (view s).ops, k.ready < s.nextReady) ↔ ∀ o ∈ s.ops, o.ready < s.nextReady :=
    List.forall_mem_map
  constructor
  · rintro ⟨tags, places, fresh⟩
    exact ⟨htags ▸ tags, hplaces ▸ places, hfresh.mpr fresh⟩
  · rintro ⟨tags, places, fresh⟩
    exact ⟨htags ▸ tags, hplaces ▸ places, hfresh.mp fresh⟩

/-! ### One record and the tags beside it -/

/-- The tags in use apart from that of a record. -/
def View.tagsBeside (a : View) (k : OpKey) : List DownTag :=
  (a.ops.filter (fun k' => k'.ready != k.ready)).filterMap (·.tag) ++ a.quarantined

/-- Where places are distinct, a record is the only one of its place (R144). -/
theorem perm_cons_filter_ready {l : List OpKey} (h : (l.map (·.ready)).Nodup) {k : OpKey} (hk : k ∈ l) :
    l.Perm (k :: l.filter (fun k' => k'.ready != k.ready)) := by
  have herase : l.erase k = l.filter (fun k' => k'.ready != k.ready) := by
    rw [(List.Nodup.of_map _ h).erase_eq_filter]
    refine List.filter_congr fun k' hk' => ?_
    have hplace : k'.ready = k.ready ↔ k' = k := ⟨List.inj_on_of_nodup_map h hk' hk, congrArg _⟩
    rw [Bool.eq_iff_iff]
    simp [hplace]
  exact herase ▸ List.perm_cons_erase hk

theorem usedTags_perm {a : View} (h : (a.ops.map (·.ready)).Nodup) {k : OpKey} (hk : k ∈ a.ops) :
    a.usedTags.Perm (k.tag.toList ++ a.tagsBeside k) := by
  have hops := ((perm_cons_filter_ready h hk).filterMap (·.tag)).append_right a.quarantined
  cases ht : k.tag <;> simpa [View.usedTags, View.tagsBeside, ht] using hops

section
variable {a : View} {k : OpKey} {t : DownTag}

/-- A tag that a record holds, or that is FREE for it, is in use nowhere else (R145). -/
theorem View.TagsSound.nodup_cons_tagsBeside (h : a.TagsSound) (hk : k ∈ a.ops)
    (w : k.tag = none ∧ a.tagFree t ∨ k.tag = some t) : (t :: a.tagsBeside k).Nodup := by
  have hused := (usedTags_perm h.places hk).nodup_iff.mp h.tags
  rcases w with ⟨hnone, hquarantined, hops⟩ | hsome
  · rw [hnone] at hused
    refine List.nodup_cons.mpr ⟨fun ht => ?_, hused⟩
    rcases List.mem_append.mp ht with ht | ht
    · obtain ⟨k', hk', htag⟩ := List.mem_filterMap.mp ht
      exact hops k' (List.mem_of_mem_filter hk') htag
    · exact hquarantined ht
  · rw [hsome] at hused
    exact hused

theorem setOp_places {f : OpKey → OpKey} (hf : ∀ k, (f k).ready = k.ready) (r : Nat) :
    (a.setOp r f).ops.map (·.ready) = a.ops.map (·.ready) := by
  refine List.map_map.trans (List.map_congr_left fun k' _ => ?_)
  dsimp only [Function.comp]
  split
  exacts [hf k', rfl]

theorem setOp_tagsBeside {f : OpKey → OpKey} (hf : ∀ k, (f k).ready = k.ready) :
    (a.setOp k.ready f).tagsBeside k = a.tagsBeside k := by
  have hothers (l : List OpKey) :
      (l.map (fun k' => if k'.ready = k.ready then f k' else k')).filter (fun k' => k'.ready != k.ready) =
        l.filter (fun k' => k'.ready != k.ready) := by
    induction l with
    | nil => rfl
    | cons k' l ih => by_cases hr : k'.ready = k.ready <;> simpa [hr, hf] using ih
  simp only [View.tagsBeside, View.setOp, hothers]

theorem View.TagsSound.setTag (h : a.TagsSound) (hk : k ∈ a.ops) (w : k.tag = none ∧ a.tagFree t ∨ k.tag = some t)
    {f : OpKey → OpKey} (hf : ∀ k, (f k).ready = k.ready) (ht : (f k).tag = some t) :
    (a.setOp k.ready f).TagsSound := by
  have hplaces := setOp_places (a := a) hf k.ready
  have hmem : f k ∈ (a.setOp k.ready f).ops := List.mem_map.mpr ⟨k, hk, if_pos rfl⟩
  have hbeside : (a.setOp k.ready f).tagsBeside (f k) = a.tagsBeside k := by
    rw [View.tagsBeside, hf]
    exact setOp_tagsBeside hf
  have htags := usedTags_perm (hplaces ▸ h.places) hmem
  rw [ht, hbeside] at htags
  have hfresh : ∀ r ∈ a.ops.map (·.ready), r < a.nextReady := List.forall_mem_map.mpr h.fresh
  exact ⟨htags.nodup_iff.mpr (h.nodup_cons_tagsBeside hk w), hplaces ▸ h.places,
    List.forall_mem_map.mp (hplaces ▸ hfresh)⟩

/-- A record takes a tag that is FREE, or goes on with its own (R145, R151, R153). -/
theorem View.TagsSound.tagged (h : a.TagsSound) (hk : k ∈ a.ops) (w : k.tag = none ∧ a.tagFree t ∨ k.tag = some t)
    (b : Bool) : (a.setOp k.ready (fun k' => { k' with tag := some t, flying := b })).TagsSound :=
  h.setTag hk w (fun _ => rfl) rfl

/-- Records that end and tags that leave the quarantine free what they held (R145, R156). -/
theorem View.TagsSound.fewer (h : a.TagsSound) {l : List OpKey} (hl : l.Sublist a.ops) {q : List DownTag}
    (hq : q.Sublist a.quarantined) : ({ a with ops := l, quarantined := q } : View).TagsSound :=
  ⟨h.tags.sublist ((hl.filterMap _).append hq), h.places.sublist (hl.map _), fun k hk => h.fresh k (hl.subset hk)⟩

/-- A request takes the next place, and no tag (R144). -/
theorem View.TagsSound.asked (h : a.TagsSound) (e : Bool) :
    ({ a with ops := a.ops ++ [{ ready := a.nextReady, tag := none, flying := false, entry := e }],
              nextReady := a.nextReady + 1 } : View).TagsSound := by
  refine ⟨?_, ?_, ?_⟩
  · simpa [View.usedTags] using h.tags
  · refine List.map_append ▸ h.places.append (List.nodup_singleton _) (List.disjoint_singleton.mpr fun hr => ?_)
    obtain ⟨k, hk, hready⟩ := List.mem_map.mp hr
    exact (h.fresh k hk).ne hready
  · exact List.forall_mem_append.mpr ⟨fun k hk => Nat.lt_succ_of_lt (h.fresh k hk), by simp⟩

/-- A timeout moves the tag of the record that ends to the quarantine (R155). -/
theorem View.TagsSound.timedOut (h : a.TagsSound) (hk : k ∈ a.ops) (w : k.tag = some t) :
    ({ a with ops := a.ops.filter (fun k' => k'.ready != k.ready), quarantined := a.quarantined ++ [t] } :
      View).TagsSound := by
  refine { h.fewer List.filter_sublist (.refl _) with tags := ?_ }
  refine (List.Perm.nodup_iff ?_).mpr (h.nodup_cons_tagsBeside hk (.inr w))
  simpa [View.usedTags, View.tagsBeside] using List.perm_append_singleton t (a.tagsBeside k)

/-- A RESET_PART ends every record, and the tags of those IN_FLIGHT go to the quarantine (R149). -/
theorem View.TagsSound.resetPart (h : a.TagsSound) :
    ({ a with ops := [], quarantined := a.quarantined ++ a.flyingTags } : View).TagsSound := by
  have hflying : a.flyingTags.Sublist (a.ops.filterMap (·.tag)) := List.filter_sublist.filterMap _
  have hquarantined : (a.quarantined ++ a.flyingTags).Nodup :=
    (List.perm_append_comm.nodup_iff.mp h.tags).sublist (hflying.append_left _)
  exact { h.fewer (List.nil_sublist _) (.refl _) with tags := hquarantined }

end

/-! ### Moves and steps -/

/-- A tag passes from FREE to a record, from a record to the quarantine, and back to FREE; no move gives one out
twice. -/
theorem Move.keeps_tagsSound {a b : View} (m : Move a b) (h : a.TagsSound) : b.TagsSound := by
  cases m with
  | asked e => exact h.asked e
  | ended l hl => exact h.fewer hl (.refl _)
  | issued k t hk w => exact { h.tagged hk w true with }
  | issuedWrite k t hk w => exact { h.tagged hk (.inl w) true with }
  | held k t hk w => exact h.tagged hk (.inr w) false
  | timedOut k t hk w => exact h.timedOut hk w
  | late t => exact h.fewer (.refl _) List.filter_sublist
  | resetPart => exact { h.resetPart with }
  | rstHeld => exact { h.fewer (List.nil_sublist _) (List.nil_sublist _) with }
  | _ => exact { h with }

/-- Settles O13: tags and places speak of the view alone, and every move keeps them distinct. -/
theorem stepsKeepTagsDistinct : Obligations.StepsKeepTagsDistinct :=
  fun _ _ hs e => step_keeps tagsSound_iff_view (fun _ _ m => m.keeps_tagsSound) hs e

end Sys2Proof.Machine
end

/-! PROOF. What the part has sent stands: no event takes back a response or an issue (R137, R147, log entry 16). -/
section

namespace Sys2Proof.Machine

/-- The responses on the upstream port and the issues on the downstream port (log entry 16). -/
structure Sent where
  responses : List UpResponse
  issues : List Issue

def State.sent (s : State) : Sent := { responses := s.responses, issues := s.issues }

/-- What was sent before stands at the front of what is sent now. -/
def Sent.Extends (now before : Sent) : Prop := before.responses <+: now.responses ∧ before.issues <+: now.issues

@[simp] theorem Sent.Extends.refl {a : Sent} : a.Extends a := ⟨List.prefix_rfl, List.prefix_rfl⟩

theorem Sent.Extends.trans {a b c : Sent} (h : c.Extends b) (g : b.Extends a) : c.Extends a :=
  ⟨g.1.trans h.1, g.2.trans h.2⟩

/-- An effect that may be absent takes back nothing that the state it finds has sent. -/
def Adds (s : State) (effect : Option State) : Prop := ∀ t, effect = some t → t.sent.Extends s.sent

theorem Adds.absent {s : State} : Adds s none := fun _ h => nomatch h

theorem Adds.present {s t : State} (h : t.sent.Extends s.sent) : Adds s (some t) := by
  rintro _ ⟨⟩
  exact h

/-! ### Shared operations -/

section
variable (s : State)

theorem respond_extends (t : UpTag) (st : Status) (d : List Beat) : (respond t st d s).sent.Extends s.sent :=
  ⟨List.prefix_append _ _, List.prefix_rfl⟩

theorem addIncident_extends (i : Incident) : (addIncident i s).sent.Extends s.sent := by simp [State.sent]

theorem addCompletion_extends (c : Completion) : (addCompletion c s).sent.Extends s.sent := by simp [State.sent]

theorem leaveSafe_extends : (leaveSafe s).sent.Extends s.sent := by simp [State.sent]

theorem requesterIssued_extends (o : Op) (t : DownTag) : (requesterIssued o t s).sent.Extends s.sent := by
  unfold requesterIssued
  repeat' split
  all_goals exact .refl

theorem sendOp_extends (o : Op) (t : DownTag) (n : Nat) : (sendOp o t n s).sent.Extends s.sent :=
  (leaveSafe_extends _).trans ⟨List.prefix_rfl, List.prefix_append _ _⟩

theorem grant_extends (o : Op) (t : DownTag) : (grant o t s).sent.Extends s.sent :=
  (requesterIssued_extends _ _ _).trans (sendOp_extends _ _ _ _)

theorem request_extends (kind : OpKind) (who : Requester) (a : Word) (b : Nat) (m : List Byte) (d : List Beat) :
    (request kind who a b m d s).sent.Extends s.sent := by
  unfold request
  dsimp only
  repeat' split
  exacts [.refl, grant_extends _ _ _, .refl]

theorem spaceLowTest_extends (b a : Nat) : (spaceLowTest b a s).sent.Extends s.sent := by
  unfold spaceLowTest
  split <;> exact .refl

theorem allocate_extends {s s' : State} {slot : SlotRef} (h : allocate s = some (slot, s')) :
    s'.sent.Extends s.sent := by
  obtain ⟨_, _, rfl⟩ := allocate_rest h
  exact .refl

theorem countFailed_extends (n : Option Word) : (countFailed n s).sent.Extends s.sent := by
  cases n <;> exact .refl

theorem answerWaited_extends (e : WriteEntry) (st : Status) : (answerWaited e st s).sent.Extends s.sent := by
  unfold answerWaited
  split
  exacts [respond_extends _ _ _ _, .refl]

theorem failEntry_extends (e : WriteEntry) (st : Status) (k : IncidentKind) :
    (failEntry e st k s).sent.Extends s.sent := by
  refine (countFailed_extends _ _).trans ?_
  cases e.ack with
  | posted => exact addIncident_extends _ _
  | waited => exact respond_extends _ _ _ _

theorem withdraw_extends (e : WriteEntry) : (withdraw e s).sent.Extends s.sent := answerWaited_extends _ _ _

theorem foldl_extends {α : Type} {f : State → α → State} (h : ∀ s x, (f s x).sent.Extends s.sent) (l : List α)
    (s : State) : (l.foldl f s).sent.Extends s.sent := by
  induction l generalizing s with
  | nil => exact .refl
  | cons x l ih => exact (ih _).trans (h s x)

theorem withdrawAll_extends (es : List WriteEntry) : (withdrawAll es s).sent.Extends s.sent :=
  foldl_extends (fun s e => withdraw_extends s e) es s

/-! ### Captures and data operations -/

/-- The queue takes an accepted write silently; a POSTED write is then answered (R25). -/
theorem acceptWrite_extends (r : WriteRequest) (cls : EntryClass) (ack : AckMode) :
    (acceptWrite r cls ack s).sent.Extends s.sent := by
  have answered (x : State) : (answerPosted ack r.tag x).sent.Extends x.sent := by
    cases ack
    exacts [respond_extends _ _ _ _, .refl]
  refine (answered _).trans ?_
  unfold enqueueCovered
  repeat' split
  all_goals exact .refl

theorem dataWriteIssue_adds : Adds s (dataWriteIssue? s) := by
  unfold dataWriteIssue?
  repeat' split
  exacts [.absent, .present (request_extends ..), .absent]

theorem dataReadIssue_adds : Adds s (dataReadIssue? s) := by
  unfold dataReadIssue?
  split
  exacts [.absent, .present (request_extends ..)]

theorem allocateUndo_adds (c : CaptureRecord) : Adds s (allocateUndo c s) := by
  unfold allocateUndo
  split
  · exact .absent
  · rename_i h
    exact .present (allocate_extends h :)

theorem failForSpace_extends (c : CaptureRecord) : (failForSpace c s).sent.Extends s.sent := by
  refine foldl_extends (fun s p => ?_) _ _
  split
  exacts [failEntry_extends _ _ _ _, .refl]

theorem noSpace_extends (c : CaptureRecord) (e : WriteEntry) : (noSpace c e s).sent.Extends s.sent := by
  unfold noSpace
  split
  exacts [failForSpace_extends _ _, .refl]

theorem captureStart_adds : Adds s (captureStart? s) := by
  unfold captureStart?
  repeat' split
  exacts [.absent, allocateUndo_adds _ _, .present (noSpace_extends ..), .absent, .absent]

theorem spaceGranted_adds : Adds s (spaceGranted? s) := by
  unfold spaceGranted?
  repeat' split
  exacts [.absent, allocateUndo_adds { s with spaceWaiter := none } _, .absent]

theorem spaceWaitExpires_adds : Adds s (spaceWaitExpires? s) := by
  unfold spaceWaitExpires?
  repeat' split
  exacts [.present (failForSpace_extends ..), .absent, .absent]

theorem captureIssue_adds : Adds s (captureIssue? s) := by
  unfold captureIssue? requestCapture
  repeat' split
  exacts [.absent, .present (request_extends ..), .present (request_extends ..), .absent]

/-! ### The Epoch Controller -/

theorem allocateOpen_extends : (allocateOpen s).sent.Extends s.sent := by
  unfold allocateOpen
  split
  · rename_i h
    exact (allocate_extends h :)
  · exact .refl

theorem latchAuto_extends (t : Trigger) : (latchAuto t s).sent.Extends s.sent := by cases t <;> exact .refl

theorem openEpoch_extends (t : Trigger) : (openEpoch t s).sent.Extends s.sent := by
  refine (latchAuto_extends _ _).trans ?_
  split
  exacts [.refl, allocateOpen_extends _]

theorem openWriteIssue_adds : Adds s (openWriteIssue? s) := by
  unfold openWriteIssue?
  repeat' split
  exacts [.absent, .absent, .present (request_extends ..)]

theorem failWaiterOf_extends (n : Word) : (failWaiterOf n s).sent.Extends s.sent := by
  unfold failWaiterOf
  repeat' split
  exacts [failForSpace_extends _ _, .refl, .refl]

theorem acceptCommit_extends (t : Trigger) : (acceptCommit t s).sent.Extends s.sent := by
  unfold acceptCommit
  split
  exacts [.refl, (latchAuto_extends _ _).trans (failWaiterOf_extends _ _)]

theorem closerCapturingDone_adds : Adds s (closerCapturingDone? s) := by
  unfold closerCapturingDone?
  split
  · exact .absent
  split
  · split
    · exact .absent
    · rename_i h
      have grown := allocate_extends h
      dsimp only
      repeat' split
      exacts [.present ((allocateOpen_extends _).trans grown), .present grown, .present grown]
  · exact .absent

theorem closeWriteIssue_adds : Adds s (closeWriteIssue? s) := by
  unfold closeWriteIssue?
  repeat' split
  exacts [.absent, .absent, .present (request_extends ..), .absent]

theorem anchorClaimIssue_adds : Adds s (anchorClaimIssue? s) := by
  unfold anchorClaimIssue?
  repeat' split
  exacts [.absent, .absent, .present (request_extends ..)]

theorem autoCommitExpires_adds : Adds s (autoCommitExpires? s) := by
  unfold autoCommitExpires?
  repeat' split
  exacts [.absent, .present (acceptCommit_extends ..), .present .refl]

theorem pendingAutoCommit_adds : Adds s (pendingAutoCommit? s) := by
  unfold pendingAutoCommit?
  split
  exacts [.present (acceptCommit_extends ..), .absent]

theorem reportCloser_extends (was : Option ClosingRecord) : (reportCloser was s).sent.Extends s.sent := by
  unfold reportCloser
  repeat' split
  exacts [.refl, .refl, addCompletion_extends _ _]

theorem reportRollback_extends (was : Option Rollback) : (reportRollback was s).sent.Extends s.sent := by
  cases was with
  | none => exact .refl
  | some r => exact addCompletion_extends _ _

/-- What a fault ends at the Epoch Controller, the Capture Engine, the ring and the D-port sends nothing. -/
theorem faultOps_sent : (faultOps s (faultRing (faultCaptures (faultController s)))).sent = s.sent :=
  calc (faultOps s (faultRing (faultCaptures (faultController s)))).sent
    _ = (faultRing (faultCaptures (faultController s))).sent := rfl
    _ = (faultCaptures (faultController s)).sent := rfl
    _ = (faultController s).sent := rfl
    _ = s.sent := rfl

theorem enterFaulted_extends : (enterFaulted s).sent.Extends s.sent := by
  unfold enterFaulted
  split
  · rw [← faultOps_sent s]
    exact (reportRollback_extends _ _).trans ((reportCloser_extends _ _).trans (withdrawAll_extends _ _))
  · exact .refl

/-! ### The Rollback Engine -/

theorem acceptAbort_extends : (acceptAbort s).sent.Extends s.sent := by
  unfold acceptAbort
  repeat' split
  exacts [.refl, withdrawAll_extends _ _, (addCompletion_extends _ _).trans (withdrawAll_extends _ _)]

theorem rollbackAbandon_extends : (rollbackAbandon s).sent.Extends s.sent := by
  unfold rollbackAbandon
  split
  · exact .refl
  · rename_i h
    exact (allocate_extends h :)

theorem rollbackSettled_adds : Adds s (rollbackSettled? s) := by
  unfold rollbackSettled?
  repeat' split
  exacts [.present (rollbackAbandon_extends s), .present .refl, .absent, .absent]

theorem rollbackIssue_adds : Adds s (rollbackIssue? s) := by
  unfold rollbackIssue?
  repeat' split
  exacts [.absent, .present (request_extends ..), .present (request_extends ..), .absent, .absent]

theorem rollbackRestoreIssue_adds : Adds s (rollbackRestoreIssue? s) := by
  unfold rollbackRestoreIssue?
  dsimp only
  repeat' split
  exacts [.absent, .present (request_extends ..), .present .refl, .absent, .present (request_extends ..), .absent,
    .absent]

theorem rollbackReadOk_extends (ws : List Word) : (rollbackReadOk ws s).sent.Extends s.sent := by
  unfold rollbackReadOk
  repeat' split
  exacts [.refl, .refl, .refl, (enterFaulted_extends _).trans (addIncident_extends _ _)]

theorem rollbackRestoreOk_extends : (rollbackRestoreOk s).sent.Extends s.sent := by
  unfold rollbackRestoreOk
  dsimp only
  repeat' split
  exacts [.refl, .refl, rollbackAbandon_extends _, .refl]

theorem rollbackAbandonOk_extends : (rollbackAbandonOk s).sent.Extends s.sent := by
  unfold rollbackAbandonOk
  dsimp only
  repeat' split
  all_goals exact .refl

theorem rollbackOpFailed_extends (o : Op) : (rollbackOpFailed o s).sent.Extends s.sent := by
  unfold rollbackOpFailed
  split
  exacts [.refl, (enterFaulted_extends _).trans (addIncident_extends _ _)]

theorem rollbackOpOk_extends (o : Op) (data : List Beat) : (rollbackOpOk o data s).sent.Extends s.sent := by
  unfold rollbackOpOk
  split
  exacts [rollbackReadOk_extends _ _, rollbackRestoreOk_extends _, rollbackAbandonOk_extends _]

theorem rollbackComplete_extends : (rollbackComplete s).sent.Extends s.sent := by
  unfold rollbackComplete
  split
  exacts [.refl, addCompletion_extends _ _]

/-! ### The Mount Engine -/

theorem mountFromFaulted_adds : Adds s (mountFromFaulted? s) := by
  unfold mountFromFaulted?
  repeat' split
  exacts [.absent, .present .refl, .absent]

theorem endMount_extends (o : LongOutcome) : (endMount o s).sent.Extends s.sent := by
  unfold endMount
  split
  exacts [.refl, addCompletion_extends _ _]

theorem mountSpaceTest_extends : (mountSpaceTest s).sent.Extends s.sent := by
  unfold mountSpaceTest
  repeat' split
  all_goals exact .refl

theorem completeMount_extends (o : LongOutcome) (next last : Word) :
    (completeMount o next last s).sent.Extends s.sent := by
  unfold completeMount
  split
  exacts [.refl, (addCompletion_extends _ _).trans (mountSpaceTest_extends _)]

theorem structureError_extends (e : Option Word) (q : Word) : (structureError e q s).sent.Extends s.sent :=
  (endMount_extends _ _).trans (addIncident_extends _ _)

theorem beginScan_extends (c : Chosen) : (beginScan c s).sent.Extends s.sent := by
  unfold beginScan
  split
  exacts [.refl, structureError_extends _ _ _]

theorem recoverChoose_extends (m : Mount) : (recoverChoose m s).sent.Extends s.sent := by
  unfold recoverChoose
  dsimp only
  repeat' split
  exacts [endMount_extends _ _, endMount_extends _ _, beginScan_extends _ _, beginScan_extends _ _,
    beginScan_extends _ _, beginScan_extends _ _, endMount_extends _ _]

theorem anchorReadDone_extends (c : Copy) (f : Finding) : (anchorReadDone c f s).sent.Extends s.sent := by
  unfold anchorReadDone
  dsimp only
  split
  · exact .refl
  split
  · split
    exacts [.refl, recoverChoose_extends _ _]
  · exact .refl

theorem recoverAnchor_extends : (recoverAnchor s).sent.Extends s.sent := by
  unfold recoverAnchor
  split <;> exact .refl

theorem recoverAbandon_extends : (recoverAbandon s).sent.Extends s.sent := by
  unfold recoverAbandon
  split
  · exact .refl
  · rename_i h
    exact (allocate_extends h :)

theorem scanStops_extends (p : SlotRef) : (scanStops p s).sent.Extends s.sent := by
  unfold scanStops
  dsimp only
  repeat' split
  exacts [.refl, .refl, recoverAnchor_extends _, recoverAbandon_extends _, .refl]

theorem scanAccepts_extends (p : SlotRef) (ws : List Word) (sh : Shape) :
    (scanAccepts p ws sh s).sent.Extends s.sent := by
  unfold scanAccepts
  dsimp only
  split
  · exact .refl
  split
  exacts [scanStops_extends _ _, .refl]

theorem scanReadOk_extends (ws : List Word) : (scanReadOk ws s).sent.Extends s.sent := by
  unfold scanReadOk
  dsimp only
  repeat' split
  exacts [.refl, scanAccepts_extends _ _ _ _, structureError_extends _ _ _, scanStops_extends _ _, .refl]

theorem mountReplayReadOk_extends (ws : List Word) : (mountReplayReadOk ws s).sent.Extends s.sent := by
  unfold mountReplayReadOk
  repeat' split
  exacts [.refl, .refl, (endMount_extends _ _).trans (addIncident_extends _ _), .refl]

theorem mountRestoreOk_extends : (mountRestoreOk s).sent.Extends s.sent := by
  unfold mountRestoreOk
  dsimp only
  repeat' split
  exacts [.refl, .refl, recoverAbandon_extends _, .refl]

theorem mountAbandonOk_extends : (mountAbandonOk s).sent.Extends s.sent := by
  unfold mountAbandonOk
  split
  · exact .refl
  · refine (recoverAnchor_extends _).trans ?_
    split <;> exact .refl

theorem mountOpOk_extends (o : Op) (data : List Beat) : (mountOpOk o data s).sent.Extends s.sent := by
  unfold mountOpOk
  repeat' split
  exacts [.refl, scanReadOk_extends _ _, mountReplayReadOk_extends _ _, mountRestoreOk_extends _,
    mountAbandonOk_extends _]

theorem mountIncident_extends (o : Op) (m : Mount) : (mountIncident o m s).sent.Extends s.sent := by
  unfold mountIncident
  dsimp only
  split
  exacts [.refl, addIncident_extends _ _, addIncident_extends _ _, addIncident_extends _ _]

theorem mountOpFailed_extends (o : Op) : (mountOpFailed o s).sent.Extends s.sent := by
  unfold mountOpFailed
  split
  exacts [.refl, (endMount_extends _ _).trans (mountIncident_extends _ _ _)]

theorem mountAnchorOk_extends : (mountAnchorOk s).sent.Extends s.sent := by
  unfold mountAnchorOk
  repeat' split
  exacts [.refl, .refl, completeMount_extends _ _ _ _, .refl]

theorem recoverAnchorOk_extends (w : AnchorWrite) : (recoverAnchorOk w s).sent.Extends s.sent := by
  unfold recoverAnchorOk
  split
  exacts [.refl, completeMount_extends _ _ _ _]

theorem mountIssue_adds : Adds s (mountIssue? s) := by
  unfold mountIssue?
  repeat' split
  exacts [.absent, .present (request_extends ..), .present (request_extends ..), .absent, .absent,
    .present (request_extends ..), .absent, .absent, .present (request_extends ..), .absent, .absent,
    .present (request_extends ..), .absent, .absent, .absent]

theorem mountRestoreIssue_adds : Adds s (mountRestoreIssue? s) := by
  unfold mountRestoreIssue?
  dsimp only
  repeat' split
  exacts [.absent, .present (request_extends ..), .present .refl, .absent, .present (request_extends ..), .absent,
    .absent]

/-! ### Memory's answers -/

theorem entryOk_extends (p : Nat) : (entryOk p s).sent.Extends s.sent := by
  unfold entryOk
  split
  exacts [.refl, answerWaited_extends _ _ _]

theorem entryFailed_extends (late : Bool) (p : Nat) : (entryFailed late p s).sent.Extends s.sent := by
  unfold entryFailed
  split
  exacts [.refl, failEntry_extends _ _ _ _]

theorem readEnds_extends (p : Nat) (st : Status) (data : List Beat) :
    (readEnds p st data s).sent.Extends s.sent := by
  unfold readEnds
  split
  exacts [.refl, respond_extends _ _ _ _]

theorem readFailed_extends (p : Nat) : (readFailed p s).sent.Extends s.sent := by
  unfold readFailed
  split
  exacts [.refl, readEnds_extends _ _ _ _]

theorem undoReadOk_extends (p : Nat) (data : List Beat) : (undoReadOk p data s).sent.Extends s.sent := by
  unfold undoReadOk
  repeat' split
  exacts [withdraw_extends _ _, .refl, .refl]

theorem undoSlotAcked_extends (p : Nat) : (undoSlotAcked p s).sent.Extends s.sent := by
  unfold undoSlotAcked
  dsimp only
  repeat' split
  exacts [.refl, withdraw_extends _ _, .refl]

theorem captureFailed_extends (p : Nat) : (captureFailed p s).sent.Extends s.sent := by
  unfold captureFailed
  split
  · refine (enterFaulted_extends _).trans ((addIncident_extends _ _).trans ?_)
    exact failEntry_extends _ _ _ _
  · exact .refl

theorem openFailed_extends (e q : Word) : (openFailed e q s).sent.Extends s.sent :=
  (enterFaulted_extends _).trans (addIncident_extends _ _)

theorem closeOk_extends : (closeOk s).sent.Extends s.sent := by
  unfold closeOk
  repeat' split
  exacts [.refl, .refl, addCompletion_extends _ _]

theorem closeFailed_extends : (closeFailed s).sent.Extends s.sent := by
  unfold closeFailed
  split
  exacts [.refl, (enterFaulted_extends _).trans (addIncident_extends _ _)]

theorem anchorReport_extends (w : AnchorWrite) : (anchorReport w s).sent.Extends s.sent := by
  unfold anchorReport
  repeat' split
  exacts [.refl, rollbackComplete_extends _, .refl, mountAnchorOk_extends _, recoverAnchorOk_extends _ _]

theorem anchorFailed_extends (w : AnchorWrite) : (anchorFailed w s).sent.Extends s.sent := by
  unfold anchorFailed
  dsimp only
  split
  exacts [(endMount_extends _ _).trans (addIncident_extends _ _),
    (enterFaulted_extends _).trans (addIncident_extends _ _)]

theorem orphanOk_extends (w : Orphan) : (orphanOk w s).sent.Extends s.sent := by cases w <;> exact .refl

theorem orphanFailed_extends (w : Orphan) : (orphanFailed w s).sent.Extends s.sent := by
  cases w with
  | slotRead => exact .refl
  | _ => exact addIncident_extends _ _

theorem finalOk_extends (o : Op) (data : List Beat) : (finalOk o data s).sent.Extends s.sent := by
  unfold finalOk
  repeat' split
  exacts [entryOk_extends _ _, readEnds_extends _ _ _ _, undoReadOk_extends _ _ _, undoSlotAcked_extends _ _, .refl,
    closeOk_extends _, rollbackOpOk_extends _ _ _, mountOpOk_extends _ _ _, anchorReadDone_extends _ _ _,
    anchorReport_extends _ _, orphanOk_extends _ _]

theorem finalFail_extends (o : Op) (late : Bool) : (finalFail o late s).sent.Extends s.sent := by
  unfold finalFail
  split
  exacts [entryFailed_extends _ _ _, readFailed_extends _ _, captureFailed_extends _ _, openFailed_extends _ _ _,
    closeFailed_extends _, rollbackOpFailed_extends _ _, mountOpFailed_extends _ _, anchorReadDone_extends _ _ _,
    anchorFailed_extends _ _, orphanFailed_extends _ _]

theorem busyOp_extends (o : Op) (t : DownTag) : (busyOp o t s).sent.Extends s.sent := by
  unfold busyOp
  repeat' split
  exacts [.refl, finalFail_extends _ _ _, addIncident_extends _ _]

theorem answerOp_extends (o : Op) (t : DownTag) (a : MemoryAnswer) (data : List Beat) :
    (answerOp o t a data s).sent.Extends s.sent := by
  unfold answerOp
  repeat' split
  exacts [finalOk_extends _ _ _, finalFail_extends _ _ _, busyOp_extends _ _ _, finalFail_extends _ _ _]

theorem answer_adds (t : DownTag) (a : MemoryAnswer) (data : List Beat) : Adds s (answer? t a data s) := by
  unfold answer?
  repeat' split
  exacts [.present .refl, .absent, .present (answerOp_extends ..)]

theorem timeout_adds (t : DownTag) : Adds s (timeout? t s) := by
  unfold timeout?
  split
  exacts [.absent, .present ((finalFail_extends _ _ _).trans (addIncident_extends _ _))]

/-! ### The part's own steps -/

theorem tagGrant_adds : Adds s (tagGrant? s) := by
  unfold tagGrant?
  split
  exacts [.present (grant_extends ..), .absent]

theorem reissueAt_adds (t : DownTag) : Adds s (reissueAt? t s) := by
  unfold reissueAt?
  repeat' split
  exacts [.absent, .present (sendOp_extends ..), .absent]

theorem reissue_adds : Adds s (reissue? s) := by
  unfold reissue?
  repeat' split
  exacts [.absent, .present (sendOp_extends ..), .absent]

theorem enterSafe_adds : Adds s (enterSafe? s) := by
  unfold enterSafe?
  split
  exacts [.present .refl, .absent]

theorem holdFromPfw_extends : (holdFromPfw s).sent.Extends s.sent := by
  unfold holdFromPfw
  split <;> exact .refl

theorem resetPart_extends (q : Byte) : (resetPart q s).sent.Extends s.sent := holdFromPfw_extends _

theorem softReset_adds : Adds s (softReset? s) := by
  unfold softReset?
  repeat' split
  exacts [.absent, .present (resetPart_extends ..), .absent]

end

/-- None of the part's own steps takes back what was sent. -/
theorem internalSteps_adds : ∀ f ∈ internalSteps, ∀ s, Adds s (f s) := by
  simp only [internalSteps, List.forall_mem_cons, List.not_mem_nil, false_imp_iff, implies_true, and_true]
  exact ⟨tagGrant_adds, reissue_adds, spaceGranted_adds, captureStart_adds, closerCapturingDone_adds,
    rollbackSettled_adds, pendingAutoCommit_adds, mountFromFaulted_adds, openWriteIssue_adds, captureIssue_adds,
    closeWriteIssue_adds, anchorClaimIssue_adds, rollbackIssue_adds, rollbackRestoreIssue_adds, mountIssue_adds,
    mountRestoreIssue_adds, dataWriteIssue_adds, dataReadIssue_adds, softReset_adds, enterSafe_adds⟩

theorem settle_extends (s : State) : (settle s).sent.Extends s.sent :=
  settle_induct (P := fun s t => t.sent.Extends s.sent) (fun _ => .refl) (fun _ _ _ h g => g.trans h)
    internalSteps_adds s

/-! ### The requests of either port -/

section
variable (s : State)

theorem refuseProtected_extends (k : IncidentKind) (a : Word) (i : Initiator) (t : UpTag) :
    (refuseProtected k a i t s).sent.Extends s.sent :=
  (addIncident_extends _ _).trans (respond_extends _ _ _ _)

theorem takeWrite_extends (r : WriteRequest) : (takeWrite r s).1.sent.Extends s.sent := by
  unfold takeWrite
  split
  exacts [respond_extends _ _ _ _, respond_extends _ _ _ _, refuseProtected_extends _ _ _ _ _,
    acceptWrite_extends _ _ _ _, (acceptWrite_extends _ _ _ _).trans (openEpoch_extends _ _), .refl]

theorem takeRead_extends (r : ReadRequest) : (takeRead r s).1.sent.Extends s.sent := by
  unfold takeRead
  split
  exacts [respond_extends _ _ _ _, respond_extends _ _ _ _, refuseProtected_extends _ _ _ _ _, .refl, .refl]

theorem arrival_extends (p : State × Bool) : (arrival p).sent.Extends p.1.sent := by
  unfold arrival
  split
  exacts [settle_extends _, .refl]

/-- A request of the M-link answers on the link alone (R183); an abort and a commit answer the writes that they end
(R35, R72). -/
theorem reply_extends (l : LinkCommand) (q : Byte) (args : List Word) :
    (l.reply q args s).state.sent.Extends s.sent := by
  cases l with
  | nop | readStatus | readAlerts => exact .refl
  | beginEpoch =>
    dsimp only [LinkCommand.reply, beginReply]
    repeat' split
    exacts [.refl, .refl, .refl, .refl, .refl, .refl, openEpoch_extends _ _]
  | commitEpoch =>
    dsimp only [LinkCommand.reply, commitReply]
    repeat' split
    exacts [.refl, .refl, .refl, .refl, .refl, .refl, .refl, acceptCommit_extends _ _]
  | abortEpoch =>
    dsimp only [LinkCommand.reply, abortReply]
    repeat' split
    exacts [.refl, .refl, .refl, .refl, .refl, .refl, acceptAbort_extends _]
  | formatJournal | recoverJournal =>
    dsimp only [LinkCommand.reply, mountReply]
    repeat' split
    all_goals exact .refl
  | setParam =>
    dsimp only [LinkCommand.reply, setParamReply]
    repeat' split
    all_goals exact .refl
  | getParam =>
    dsimp only [LinkCommand.reply, getParamReply]
    split <;> exact .refl
  | writeRegion =>
    dsimp only [LinkCommand.reply, writeRegionReply]
    repeat' split
    all_goals exact .refl
  | readRegion =>
    dsimp only [LinkCommand.reply, readRegionReply]
    split <;> exact .refl
  | clearAlerts =>
    dsimp only [LinkCommand.reply, clearAlertsReply]
    split <;> exact .refl
  | popIncident =>
    dsimp only [LinkCommand.reply, popIncidentReply]
    split <;> exact .refl
  | popCompletion =>
    dsimp only [LinkCommand.reply, popCompletionReply]
    split <;> exact .refl
  | resetPart =>
    dsimp only [LinkCommand.reply, resetPartReply, softResetReply]
    repeat' split
    exacts [.refl, .refl, resetPart_extends _ _, .refl]

theorem counted_extends (l : LinkCommand) (r : LinkRequest) : (counted l r s).state.sent.Extends s.sent := by
  unfold counted
  split
  exacts [reply_extends _ _ _ _, .refl]

theorem dispatch_extends (code : Byte) (r : LinkRequest) : (dispatch code r s).state.sent.Extends s.sent := by
  unfold dispatch
  split
  exacts [.refl, counted_extends _ _ _]

/-- The release of MCS# takes back nothing where the owner of the request does not (R180). -/
theorem takeReply_extends (q : Byte) {reply : State → Reply} (h : (reply s).state.sent.Extends s.sent) :
    (takeReply q reply s).sent.Extends s.sent := by
  unfold takeReply
  dsimp only
  repeat' split
  exacts [.refl, (settle_extends _).trans h, h]

/-! ### Resets and pins -/

theorem pfwAsserted_extends : (pfwAsserted s).sent.Extends s.sent := by
  unfold pfwAsserted
  dsimp only
  split <;> exact .refl

theorem rstReleased_extends (st : Straps) : (rstReleased st s).sent.Extends s.sent := by
  cases hr : s.rstHeld with
  | false => rw [rstReleased_of_not_held hr]; exact .refl
  | true =>
    rw [rstReleased_of_held hr]
    split <;> exact .refl

end

/-! ### Commands -/

section
variable {s t : State}

theorem eventOf_extends {e : Option State} (h : Adds s e) (g : eventOf e s = .next t) : t.sent.Extends s.sent := by
  cases g
  split
  exacts [(settle_extends _).trans (h _ rfl), .refl]

theorem ownStep_extends {f : State → Option State} (h : Adds s (f s)) (g : ownStep f s = .next t) :
    t.sent.Extends s.sent :=
  eventOf_extends h g

theorem finalAnswer_extends {d : DownTag} {a : FinalAnswer} {data : List Beat} (g : finalAnswer d a data s = .next t) :
    t.sent.Extends s.sent :=
  eventOf_extends (answer_adds s _ _ _) g

theorem linkStep_extends {l : LinkCommand} {r : LinkRequest} (g : linkStep l r s = .next t) :
    t.sent.Extends s.sent := by
  cases g
  exact takeReply_extends s _ (counted_extends s l r)

theorem execFrameError_extends {bits : List Bool} (g : execFrameError bits s = .next t) : t.sent.Extends s.sent := by
  unfold execFrameError at g
  split at g
  · cases g
    exact takeReply_extends s _ .refl
  · cases g
    exact takeReply_extends s _ (dispatch_extends _ _ _)

end

/-- No command takes back what the part has sent. -/
theorem exec_extends {c : Instr} {s t : State} (g : exec c s = .next t) : t.sent.Extends s.sent := by
  cases c with
  | writeRequest r =>
    cases g
    split
    exacts [.refl, (arrival_extends _).trans (takeWrite_extends _ _)]
  | readRequest r =>
    cases g
    split
    exacts [.refl, (arrival_extends _).trans (takeRead_extends _ _)]
  | nop | readStatus | beginEpoch | commitEpoch | abortEpoch | formatJournal | recoverJournal | setParam | getParam
  | writeRegion | readRegion | readAlerts | clearAlerts | popIncident | popCompletion | resetPartSoft
  | resetPartForce =>
    exact linkStep_extends g
  | frameError bits => exact execFrameError_extends g
  | unknownCommand code r =>
    cases g
    exact takeReply_extends s _ (dispatch_extends _ _ _)
  | mcsAsserted =>
    cases g
    repeat' split
    all_goals exact .refl
  | pfwAssert =>
    cases g
    exact (settle_extends _).trans (pfwAsserted_extends s)
  | pfwRelease =>
    cases g
    exact settle_extends _
  | rstAssert =>
    cases g
    exact .refl
  | rstRelease st =>
    cases g
    exact (settle_extends _).trans (rstReleased_extends s st)
  | spaceWaitExpiry => exact eventOf_extends (spaceWaitExpires_adds s) g
  | autoCommitExpiry => exact eventOf_extends (autoCommitExpires_adds s) g
  | dsTimeout tag => exact eventOf_extends (timeout_adds s tag) g
  | busyAnswer | lateAnswer => exact eventOf_extends (answer_adds s _ _ _) g
  | dataWriteAnswer | dataReadAnswer | undoReadAnswer | undoSlotWriteAnswer | openSlotWriteAnswer
  | closeSlotWriteAnswer | anchorWriteAnswer | rollbackSlotReadAnswer | rollbackRestoreAnswer | rollbackAbandonAnswer
  | anchorReadAnswer | formatAnchorWriteAnswer | scanSlotReadAnswer | mountReplayReadAnswer | mountRestoreAnswer
  | mountAbandonAnswer | orphanOperationAnswer =>
    exact finalAnswer_extends g
  | reissue tag => exact ownStep_extends (reissueAt_adds s tag) g
  | tagGrant | softResetTakesPlace | enterSafe | spaceGranted | pendingAutoCommitTaken | dataWriteIssue | dataReadIssue
  | captureStart | closerCapturingDone | closeWriteIssue | anchorClaimIssue | rollbackSettled | rollbackRestoreIssue
  | mountRestoreIssue | mountFromFaulted =>
    exact ownStep_extends (internalSteps_adds _ (by simp [internalSteps]) s) g

/-- Settles O4: each command's effect, and each own step that follows it, adds to what was sent. -/
theorem outputsOnlyGrow : Obligations.OutputsOnlyGrow := fun _ _ _ g => exec_extends g

end Sys2Proof.Machine
end

/-! PROOF. BUSY answers, retry exhaustion and reissues (R151 to R155, R176). -/
section

namespace Sys2Proof.Machine

/-! ### Records that become HELD -/

/-- The records after one of them became HELD under its tag (R151, R154). -/
def State.holdingOp (s : State) (o : Op) (t : DownTag) (persisting : Bool) : List Op :=
  s.ops.map (fun x => if x.ready = o.ready then { x with phase := .held t, persisting := persisting } else x)

theorem holdOp_eq (o : Op) (t : DownTag) (persisting : Bool) (s : State) :
    holdOp o t persisting s = { s with ops := s.holdingOp o t persisting } := rfl

/-- The log of incidents neither reads nor changes the records of operations. -/
theorem addIncident_setOps (i : Incident) (l : List Op) (s : State) :
    addIncident i { s with ops := l } = { addIncident i s with ops := l } := by
  by_cases h : s.incidents.length < Config.incidentCapacity <;> simp only [addIncident, h] <;> rfl

theorem holdOp_addIncident (o : Op) (t : DownTag) (persisting : Bool) (i : Incident) (s : State) :
    holdOp o t persisting (addIncident i s) = addIncident i { s with ops := s.holdingOp o t persisting } := by
  rw [holdOp_eq, State.holdingOp, addIncident_ops]
  exact (addIncident_setOps i _ s).symm

/-! ### BUSY -/

section
variable {s x : State} {t : DownTag} {o : Op}

theorem busyAnswer_next (h : s.answering t o) (hx : busyOp o t s = x) :
    exec (.busyAnswer t) s = .next (settle x) :=
  eventOf_some ((answer_eq h .busy).trans (congrArg some hx))

/-- Below RETRY_LIMIT, and always while it persists, a record becomes HELD (R151, R154). -/
theorem busyOp_below (h : o.persisting = true ∨ o.retries < s.settings.retryLimit.toNat) :
    busyOp o t s = { s with ops := s.holdingOp o t o.persisting } := by
  rw [busyOp, if_pos h, holdOp_eq]

/-- The limit is reached: no retry is left to a record that does not persist yet (R154). -/
theorem not_retryLeft (hp : o.persisting = false) (hl : s.settings.retryLimit.toNat ≤ o.retries) :
    ¬(o.persisting = true ∨ o.retries < s.settings.retryLimit.toNat) := by
  rw [hp, not_or]
  exact ⟨Bool.false_ne_true, hl.not_gt⟩

theorem busyOp_persist (hp : o.persisting = false) (hl : s.settings.retryLimit.toNat ≤ o.retries)
    (ha : s.settings.exhaustAction = .persist) :
    busyOp o t s =
      addIncident { Incident.bare .retryPersisting with address := some o.address }
        { s with ops := s.holdingOp o t true } := by
  rw [busyOp, if_neg (not_retryLeft hp hl), ha]
  exact holdOp_addIncident o t true _ s

theorem busyOp_fail (hp : o.persisting = false) (hl : s.settings.retryLimit.toNat ≤ o.retries)
    (ha : s.settings.exhaustAction = .fail) : busyOp o t s = finalFail o false (s.dropOp o.ready) := by
  rw [busyOp, if_neg (not_retryLeft hp hl), ha]

end

/-! ### Reissues -/

section
variable {s : State} {t : DownTag} {o : Op}

/-- The only record HELD under a tag is the one that its reissue finds. -/
theorem find?_held (ho : o ∈ s.ops) (hp : o.phase = .held t) (honly : ∀ x ∈ s.ops, x.phase = .held t → x = o) :
    s.ops.find? (fun x => x.phase == .held t) = some o := by
  obtain ⟨x, hx⟩ := Option.isSome_iff_exists.mp
    (List.find?_isSome (p := fun x : Op => x.phase == .held t) |>.mpr ⟨o, ho, by simpa using hp⟩)
  rw [hx, honly x (List.mem_of_find?_eq_some hx) (by simpa using List.find?_some hx)]

/-- A HELD record is sent again as it is, its retry count one higher and its timer started afresh; SAFE is left (R153,
R155, R176). -/
theorem reissueOp_eq (o : Op) (t : DownTag) (s : State) :
    reissueOp o t s =
      { s with
        ops := s.ops.map (fun x =>
          if x.ready = o.ready then
            { x with
              retries := o.retries + 1, phase := .inFlight t s.settings.dsTimeoutUs.toNat,
              timeout := some s.settings.dsTimeoutUs }
          else x),
        hold := if s.hold = .safe then .holding else s.hold,
        issues := s.issues ++
          [{ tag := t, kind := o.kind, address := o.address, beats := o.beats, masks := o.masks, data := o.data }] } :=
  leaveSafe_eq _

theorem reissueAt_of_may (hf : s.ops.find? (fun x => x.phase == .held t) = some o)
    (hm : s.mayIssue o.requester = true) : reissueAt? t s = some (reissueOp o t s) := by
  simp only [reissueAt?, hf, if_pos hm]

theorem reissueAt_of_not_may (hf : s.ops.find? (fun x => x.phase == .held t) = some o)
    (hm : ¬s.mayIssue o.requester = true) : reissueAt? t s = none := by
  simp only [reissueAt?, hf, if_neg hm]

end

/-- Settles O42: `busyOp` by what is left of the record's retries and by EXHAUST_ACTION, and the reissue of the one
record that is HELD under the tag by R152's table. -/
theorem busyAnswersAreHeldAndReissued : Obligations.BusyAnswersAreHeldAndReissued := by
  intro t o s
  constructor
  · intro h held
    refine ⟨fun hleft => busyAnswer_next h (busyOp_below hleft),
      fun hp hl ha => busyAnswer_next h (busyOp_persist hp hl ha), fun hp hl ha => busyAnswer_next h ?_⟩
    rw [busyOp_fail hp hl ha, dropOp_eq]
  · intro may ho hp honly
    have hmay (who : Requester) : s.mayIssue who = true ↔ may who := by
      rw [mayIssue_eq_true_iff]
      cases who <;> simp [may, Requester.asksInDrain]
    have hfind := find?_held ho hp honly
    refine ⟨fun hm => ownStep_some ?_, fun hm => ownStep_none (reissueAt_of_not_may hfind (mt (hmay _).mp hm))⟩
    rw [reissueAt_of_may hfind ((hmay _).mpr hm), reissueOp_eq]

end Sys2Proof.Machine
end

/-! PROOF. The hold under PFW and the quiet of SAFE that every step keeps, by the moves of Laws/Moves.lean (R174 to
R178). -/
section

namespace Sys2Proof.Machine

/-- The hold state differs from RUN only under PFW, and in SAFE no record is IN_FLIGHT, in the view. -/
structure View.SafeSound (a : View) : Prop where
  warned : a.hold ≠ .run → a.pfw = true
  quiet : a.hold = .safe → ∀ k ∈ a.ops, k.flying = false

theorem safeSound_iff_view (s : State) : s.SafeSound ↔ (view s).SafeSound := by
  have hquiet : (∀ k ∈ (view s).ops, k.flying = false) ↔ ∀ o ∈ s.ops, o.flying = false := List.forall_mem_map
  exact ⟨fun h => ⟨h.warned, fun e => hquiet.mpr (h.quiet e)⟩,
    fun h => ⟨h.warned, fun e => hquiet.mp (h.quiet e)⟩⟩

/-! ### The hold state after a move -/

/-- In RUN the part promises nothing, whatever PFW and the records are. -/
theorem View.safeSound_of_run {a : View} (h : a.hold = .run) : a.SafeSound where
  warned := fun hne => absurd h hne
  quiet := fun hsafe => by rw [h] at hsafe; cases hsafe

/-- HOLDING asks for PFW alone. -/
theorem View.safeSound_of_holding {a : View} (h : a.hold = .holding) (hp : a.pfw = true) : a.SafeSound where
  warned := fun _ => hp
  quiet := fun hsafe => by rw [h] at hsafe; cases hsafe

theorem holdAfterIssue_ne_safe (h : HoldState) : holdAfterIssue h ≠ .safe := by
  cases h <;> decide

/-- An issue leaves RUN as it is. -/
theorem ne_run_of_holdAfterIssue {h : HoldState} (hne : holdAfterIssue h ≠ .run) : h ≠ .run := by
  rintro rfl
  exact hne rfl

section
variable {a : View}

/-- An issue in SAFE returns to HOLDING, so that SAFE never sees the record that it puts IN_FLIGHT (R176). -/
theorem View.SafeSound.issued (h : a.SafeSound) (l : List OpKey) :
    ({ a with ops := l, hold := holdAfterIssue a.hold } : View).SafeSound where
  warned := fun hne => h.warned (ne_run_of_holdAfterIssue hne)
  quiet := fun hsafe => absurd hsafe (holdAfterIssue_ne_safe a.hold)

/-- Records that end leave none IN_FLIGHT that was not. -/
theorem View.SafeSound.fewer (h : a.SafeSound) {l : List OpKey} (hl : l ⊆ a.ops) :
    ({ a with ops := l } : View).SafeSound :=
  { h with quiet := fun hsafe k hk => h.quiet hsafe k (hl hk) }

/-- A new record waits for its tag (R144). -/
theorem View.SafeSound.asked (h : a.SafeSound) {k : OpKey} (hk : k.flying = false) :
    ({ a with ops := a.ops ++ [k] } : View).SafeSound :=
  { h with
    quiet := fun hsafe => List.forall_mem_append.mpr ⟨h.quiet hsafe, List.forall_mem_singleton.mpr hk⟩ }

/-- A record that becomes HELD is not IN_FLIGHT (R151). -/
theorem View.SafeSound.held (h : a.SafeSound) (r : Nat) (t : DownTag) :
    (a.setOp r (fun k => { k with tag := some t, flying := false })).SafeSound :=
  { h with
    quiet := fun hsafe => List.forall_mem_map.mpr fun k hk => by
      split
      exacts [rfl, h.quiet hsafe k hk] }

end

/-! ### Moves and steps -/

/-- SAFE is entered with nothing IN_FLIGHT and left by every issue; HOLDING is entered under PFW, and the release of PFW
gives RUN. -/
theorem Move.keeps_safeSound {a b : View} (m : Move a b) (h : a.SafeSound) : b.SafeSound := by
  cases m with
  | asked e => exact { h.asked rfl with }
  | ended l hl => exact h.fewer hl.subset
  | issued k t => exact h.issued _
  | issuedWrite k t => exact { h.issued _ with }
  | held k t => exact h.held k.ready t
  | timedOut k t => exact { h.fewer (List.filter_subset_self _) with }
  | safe hhold hquiet =>
    have hne : a.hold ≠ .run := by rw [hhold]; nofun
    exact ⟨fun _ => h.warned hne, fun _ => hquiet⟩
  | warned => exact { h with warned := fun _ => rfl }
  | holding hp => exact View.safeSound_of_holding rfl hp
  | run => exact View.safeSound_of_run rfl
  | released => exact View.safeSound_of_run rfl
  | resetPart => exact View.safeSound_of_run rfl
  | rstHeld => exact View.safeSound_of_run rfl
  | _ => exact { h with }

/-- Settles O12: the promise speaks of the view's hold state, PFW and records, and every move keeps it. -/
theorem stepsKeepSafePromise : Obligations.StepsKeepSafePromise :=
  fun _ _ hs e => step_keeps safeSound_iff_view (fun _ _ m => m.keeps_safeSound) hs e

end Sys2Proof.Machine
end

/-! PROOF. The Alert Unit: the latched set, the incident log and the completion list, as its records join them and as
the M-link's requests read and take them (R163 to R170). -/
section

namespace Sys2Proof.Machine

/-! ### The bits of a word -/

theorem ne_zero_iff_exists_getLsbD {w : Nat} (x : BitVec w) : x ≠ 0#w ↔ ∃ k < w, x.getLsbD k = true := by
  have hzero : x = 0#w ↔ ∀ k < w, x.getLsbD k = (0#w).getLsbD k := BitVec.eq_of_getLsbD_eq_iff
  simp [hzero]

/-- Bit `i` of a word is bit `i` modulo 8 of the byte that it falls in (R181). -/
theorem getLsbD_wordOfBytes (b0 b1 b2 b3 : Byte) (i : Nat) :
    (wordOfBytes b0 b1 b2 b3).getLsbD i =
      if i < 8 then b0.getLsbD i
      else if i < 16 then b1.getLsbD (i - 8)
      else if i < 24 then b2.getLsbD (i - 16)
      else b3.getLsbD (i - 24) := by
  simp only [wordOfBytes, BitVec.getLsbD_append]
  grind

theorem byteOf_wordOfBytes (b0 b1 b2 b3 : Byte) :
    byteOf (wordOfBytes b0 b1 b2 b3) 0 = b0 ∧ byteOf (wordOfBytes b0 b1 b2 b3) 1 = b1 ∧
      byteOf (wordOfBytes b0 b1 b2 b3) 2 = b2 ∧ byteOf (wordOfBytes b0 b1 b2 b3) 3 = b3 := by
  and_intros <;> refine BitVec.eq_of_getLsbD_eq fun i hi => ?_
  all_goals
    simp only [byteOf, BitVec.getLsbD_extractLsb', getLsbD_wordOfBytes]
    grind

theorem getLsbD_flagByte (b : Bool) {k i : Nat} (hk : k < 8) : (flagByte b k).getLsbD i = (b && decide (i = k)) := by
  have hbit : (1#8 <<< k).getLsbD i = decide (i = k) := by
    simp only [BitVec.getLsbD_shiftLeft, BitVec.getLsbD_one]
    grind
  cases b
  · exact BitVec.getLsbD_zero
  · exact hbit

/-! ### READ_ALERTS, CLEAR_ALERTS and ALERT# -/

/-- A word that names alert kinds has bits 6 to 31 zero exactly where its value is below 64 (R163). -/
theorem alertWordOk_iff (w : Word) : alertWordOk w = true ↔ w.toNat < 64 := by
  have hmask (k : Nat) : (0xFFFFFFC0#32).getLsbD k = (decide (k < 32) && decide (6 ≤ k)) := by
    have h : 0xFFFFFFC0#32 = BitVec.allOnes 32 <<< 6 := by decide
    rw [h, BitVec.getLsbD_shiftLeft, BitVec.getLsbD_allOnes]
    grind
  rw [alertWordOk, decide_eq_true_iff, BitVec.eq_of_getLsbD_eq_iff]
  simp only [BitVec.getLsbD_and, hmask, BitVec.getLsbD_zero]
  constructor
  · intro h
    refine Nat.lt_pow_two_of_testBit (n := 6) w.toNat fun k hk => ?_
    by_cases h32 : k < 32
    · have hbit : w.getLsbD k = false := by
        simpa only [decide_eq_true h32, decide_eq_true hk, Bool.and_true] using h k h32
      exact hbit
    · exact BitVec.getLsbD_of_ge w k (Nat.not_lt.mp h32)
  · intro h k _
    by_cases hk : 6 ≤ k
    · have hbit : w.getLsbD k = false :=
        Nat.testBit_lt_two_pow (h.trans_le (Nat.pow_le_pow_right (n := 2) (by omega) hk))
      simp [hbit]
    · simp [hk]

theorem clearAlertsReply_bad {w : Word} (h : 64 ≤ w.toNat) (s : State) : clearAlertsReply [w] s = badReply s :=
  if_neg (mt (alertWordOk_iff w).mp (Nat.not_lt.mpr h))

theorem clearAlertsReply_clear {w : Word} (h : w.toNat < 64) (s : State) :
    clearAlertsReply [w] s =
      doneReply [(s.latched &&& ~~~alertsOfWord w).zeroExtend 32]
        { s with latched := s.latched &&& ~~~alertsOfWord w } :=
  if_pos ((alertWordOk_iff w).mpr h)

/-- Of the latched kinds those stay that the word does not name (R165). -/
theorem getLsbD_cleared (a : BitVec 6) (w : Word) {k : Nat} (hk : k < 6) :
    (a &&& ~~~alertsOfWord w).getLsbD k = (a.getLsbD k && !w.getLsbD k) := by
  simp [alertsOfWord, hk]

theorem alertLine_iff (s : State) :
    s.alertLine = true ↔ ∃ k < 6, s.latched.getLsbD k = true ∧ s.settings.alertMask.getLsbD k = true := by
  rw [State.alertLine, decide_eq_true_iff, ne_zero_iff_exists_getLsbD]
  simp only [BitVec.getLsbD_and, Bool.and_eq_true]

/-- Settles O23: the requests by what they answer, the line by the bits that the latched set and the mask share. -/
theorem alertsAreReadAndCleared : Obligations.AlertsAreReadAndCleared := by
  intro q w s hr
  refine ⟨linkStep_done hr rfl, fun hbad => linkStep_refusal hr (clearAlertsReply_bad hbad s), fun hok => ?_,
    alertLine_iff s⟩
  exact ⟨_, linkStep_done hr (clearAlertsReply_clear hok s), fun k hk => getLsbD_cleared s.latched w hk⟩

/-! ### The incident log -/

theorem addIncident_of_full {s : State} (h : 16 ≤ s.incidents.length) (i : Incident) :
    addIncident i s = { s with drops := min (s.drops + 1) 255, latched := s.latched ||| 0x08#6 } := by
  rw [addIncident, if_neg (show ¬_ < Config.incidentCapacity from Nat.not_lt.mpr h)]
  rfl

/-- The byte of a record's presence bits (R168). -/
def Incident.presence (i : Incident) : Byte :=
  flagByte i.address.isSome 0 ||| flagByte i.initiator.isSome 1 ||| flagByte i.tag.isSome 2
    ||| flagByte i.epoch.isSome 3 ||| flagByte i.sequence.isSome 4

/-- The first result word of POP_INCIDENT for a record (R168). -/
def Incident.head (i : Incident) (drops : Nat) : Word :=
  wordOfBytes i.kind.code i.presence (BitVec.ofNat 8 drops) 0

/-- The initiator and the tag of a record in one word, 0 for one that the record does not have (R168). -/
theorem wordOfBytes_initiator_tag (v : Option Initiator) (u : Option UpTag) :
    wordOfBytes ((v.map fun v => BitVec.ofNat 8 v.val).getD 0) ((u.map fun u => BitVec.ofNat 8 u.val).getD 0) 0 0 =
      (match v with | some v => BitVec.ofNat 32 v.val | none => 0) |||
        (match u with | some u => BitVec.ofNat 32 (256 * u.val) | none => 0) := by
  have hv (v : Initiator) : (BitVec.ofNat 8 v.val).zeroExtend 32 = BitVec.ofNat 32 v.val := by decide +revert
  have hu (u : UpTag) : (BitVec.ofNat 8 u.val).zeroExtend 32 <<< 8 = BitVec.ofNat 32 (256 * u.val) := by decide +revert
  rw [wordOfBytes_masks]
  cases v <;> cases u <;>
    simp only [Option.map_some, Option.map_none, Option.getD_some, Option.getD_none, hv, hu] <;> rfl

section
variable (i : Incident)

theorem Incident.getLsbD_presence (k : Nat) :
    i.presence.getLsbD k =
      [i.address.isSome, i.initiator.isSome, i.tag.isSome, i.epoch.isSome, i.sequence.isSome].getD k false := by
  have hor : i.presence.getLsbD k =
      (i.address.isSome && decide (k = 0) || i.initiator.isSome && decide (k = 1) || i.tag.isSome && decide (k = 2)
        || i.epoch.isSome && decide (k = 3) || i.sequence.isSome && decide (k = 4)) := by
    simp only [Incident.presence, BitVec.getLsbD_or, getLsbD_flagByte _ (show 0 < 8 by decide),
      getLsbD_flagByte _ (show 1 < 8 by decide), getLsbD_flagByte _ (show 2 < 8 by decide),
      getLsbD_flagByte _ (show 3 < 8 by decide), getLsbD_flagByte _ (show 4 < 8 by decide)]
  match k with
  | 0 | 1 | 2 | 3 | 4 => simpa using hor
  | k + 5 => simpa using hor

/-- The presence bits stand in the second byte of the first word (R168). -/
theorem Incident.getLsbD_head (drops : Nat) {k : Nat} (hk : k < 8) :
    (i.head drops).getLsbD (8 + k) = i.presence.getLsbD k := by
  rw [Incident.head, getLsbD_wordOfBytes, if_neg (by omega), if_pos (by omega), Nat.add_sub_cancel_left]

theorem Incident.head_reserved (drops : Nat) : (i.head drops).extractLsb' 13 3 = 0 := by
  refine BitVec.eq_of_getLsbD_eq fun k hk => ?_
  have hbit : (i.head drops).getLsbD (8 + (5 + k)) = false := calc
    _ = i.presence.getLsbD (5 + k) := i.getLsbD_head drops (by omega)
    _ = _ := i.getLsbD_presence (5 + k)
    _ = false := List.getD_eq_default _ _ (Nat.le_add_right 5 k)
  rw [← Nat.add_assoc] at hbit
  rw [BitVec.getLsbD_extractLsb', hbit, Bool.and_false]
  exact BitVec.getLsbD_zero.symm

end

theorem popIncidentReply_cons {s : State} {i : Incident} {rest : List Incident} (h : s.incidents = i :: rest) :
    popIncidentReply s =
      doneReply
        [i.head s.drops, i.address.getD 0,
         (match i.initiator with | some v => BitVec.ofNat 32 v.val | none => 0) |||
           (match i.tag with | some v => BitVec.ofNat 32 (256 * v.val) | none => 0),
         i.epoch.getD 0, i.sequence.getD 0, BitVec.ofNat 32 rest.length]
        { s with incidents := rest, drops := 0 } := by
  rw [popIncidentReply, h, ← wordOfBytes_initiator_tag]
  rfl

theorem popIncidentReply_nil {s : State} (h : s.incidents = []) :
    popIncidentReply s = doneReply [0, 0, 0, 0, 0, 0] s := by
  rw [popIncidentReply, h]

/-- A pop takes no argument (R184). -/
theorem pop_not_takes {args : List Word} (h : args ≠ []) :
    LinkCommand.popIncident.takes args.length = false ∧ LinkCommand.popCompletion.takes args.length = false := by
  simp [LinkCommand.takes, h]

/-- Settles O24: a record joins as there is room, and a pop answers the words of the oldest. -/
theorem incidentsAreLoggedAndPopped : Obligations.IncidentsAreLoggedAndPopped := by
  refine ⟨fun i s => ⟨fun hroom => addIncident_of_room hroom i, fun hfull => addIncident_of_full hfull i⟩,
    fun q s hr => ⟨fun args hargs => ?_, fun hnil => ?_, fun i rest hcons => ?_⟩⟩
  · exact linkStep_refusal hr (counted_of_not_takes (pop_not_takes hargs).1 s)
  · exact linkStep_done hr (popIncidentReply_nil hnil)
  · obtain ⟨hkind, -, hdrops, hzero⟩ := byteOf_wordOfBytes i.kind.code i.presence (BitVec.ofNat 8 s.drops) 0
    have hpresent {k : Nat} (hk : k < 8) := (i.getLsbD_head s.drops hk).trans (i.getLsbD_presence k)
    refine ⟨i.head s.drops, ?_, hkind.trans ?_, hpresent (k := 0) (by decide), hpresent (k := 1) (by decide),
      hpresent (k := 2) (by decide), hpresent (k := 3) (by decide), hpresent (k := 4) (by decide),
      i.head_reserved s.drops, hdrops, hzero⟩
    · exact linkStep_done hr (popIncidentReply_cons hcons)
    · cases i.kind <;> rfl

/-! ### The completion list -/

theorem addCompletion_of_full {s : State} {old : Completion} {rest : List Completion} (h : s.completions = old :: rest)
    (hfull : rest.length = 3) (c : Completion) :
    addCompletion c s =
      { s with completions := rest ++ [{ c with discarded := min (1 + old.discarded) 255 }],
               latched := s.latched ||| 0x01#6 } := by
  have hlength : ¬(old :: rest).length < Config.completionCapacity := by
    rw [List.length_cons, hfull]
    decide
  simp only [addCompletion, h, if_neg hlength]
  rfl

/-- The byte of the trigger and of the epoch's presence (R170). -/
def Completion.flags (c : Completion) : Byte := flagByte (decide (c.trigger = .auto)) 0 ||| flagByte c.epoch.isSome 1

/-- The first result word of POP_COMPLETION for a record (R170). -/
def Completion.head (c : Completion) : Word :=
  wordOfBytes c.op.code c.outcome.code c.flags (BitVec.ofNat 8 c.discarded)

section
variable (c : Completion)

theorem Completion.getLsbD_flags (k : Nat) :
    c.flags.getLsbD k = [decide (c.trigger = .auto), c.epoch.isSome].getD k false := by
  have hor : c.flags.getLsbD k =
      (decide (c.trigger = .auto) && decide (k = 0) || c.epoch.isSome && decide (k = 1)) := by
    simp only [Completion.flags, BitVec.getLsbD_or, getLsbD_flagByte _ (show 0 < 8 by decide),
      getLsbD_flagByte _ (show 1 < 8 by decide)]
  match k with
  | 0 | 1 => simpa using hor
  | k + 2 => simpa using hor

/-- The flags stand in the third byte of the first word (R170). -/
theorem Completion.getLsbD_head {k : Nat} (hk : k < 8) : c.head.getLsbD (16 + k) = c.flags.getLsbD k := by
  rw [Completion.head, getLsbD_wordOfBytes, if_neg (by omega), if_neg (by omega), if_pos (by omega),
    Nat.add_sub_cancel_left]

theorem Completion.head_reserved : c.head.extractLsb' 18 6 = 0 := by
  refine BitVec.eq_of_getLsbD_eq fun k hk => ?_
  have hbit : c.head.getLsbD (16 + (2 + k)) = false := calc
    _ = c.flags.getLsbD (2 + k) := c.getLsbD_head (by omega)
    _ = _ := c.getLsbD_flags (2 + k)
    _ = false := List.getD_eq_default _ _ (Nat.le_add_right 2 k)
  rw [← Nat.add_assoc] at hbit
  rw [BitVec.getLsbD_extractLsb', hbit, Bool.and_false]
  exact BitVec.getLsbD_zero.symm

end

theorem popCompletionReply_cons {s : State} {c : Completion} {rest : List Completion} (h : s.completions = c :: rest) :
    popCompletionReply s =
      doneReply
        [c.head, c.epoch.getD 0, BitVec.ofNat 32 c.countA, BitVec.ofNat 32 c.countB, BitVec.ofNat 32 rest.length]
        { s with completions := rest } := by
  rw [popCompletionReply, h]
  rfl

theorem popCompletionReply_nil {s : State} (h : s.completions = []) :
    popCompletionReply s = doneReply [0, 0, 0, 0, 0] s := by
  rw [popCompletionReply, h]

/-- Settles O25: a record joins as there is room, and a pop answers the words of the oldest. -/
theorem completionsAreListedAndPopped : Obligations.CompletionsAreListedAndPopped := by
  refine ⟨fun c s => ⟨fun hroom => ?_, fun old rest hcons hfull => addCompletion_of_full hcons hfull c⟩,
    fun q s hr => ⟨fun args hargs => ?_, fun hnil => ?_, fun c rest hcons => ?_⟩⟩
  · rw [addCompletion_only, addCompletion_completions hroom]
  · exact linkStep_refusal hr (counted_of_not_takes (pop_not_takes hargs).2 s)
  · exact linkStep_done hr (popCompletionReply_nil hnil)
  · obtain ⟨hop, houtcome, -, hdiscarded⟩ :=
      byteOf_wordOfBytes c.op.code c.outcome.code c.flags (BitVec.ofNat 8 c.discarded)
    have hflag {k : Nat} (hk : k < 8) := (c.getLsbD_head hk).trans (c.getLsbD_flags k)
    refine ⟨c.head, ?_, hop.trans ?_, houtcome.trans ?_, (hflag (k := 0) (by decide)).trans ?_,
      hflag (k := 1) (by decide), c.head_reserved, hdiscarded⟩
    · exact linkStep_done hr (popCompletionReply_cons hcons)
    · cases c.op <;> rfl
    · cases c.outcome <;> rfl
    · cases c.trigger <;> rfl

end Sys2Proof.Machine
end

/-! PROOF. The frames of the M-link: the bits that carry their words, the sum of their bytes, and the request that a
frame is read as (R179, R181 to R183). -/
section

namespace Sys2Proof.Machine

/-! ### Words as bits -/

theorem bitsOfWord_length (w : Word) : (bitsOfWord w).length = 32 := by
  simp [bitsOfWord]

theorem bitsOfWord_getD (w : Word) {k : Nat} (hk : k < 32) : (bitsOfWord w).getD k false = w.getLsbD k := by
  simp [bitsOfWord, hk]

theorem flatMap_bitsOfWord_length (ws : List Word) : (ws.flatMap bitsOfWord).length = 32 * ws.length := by
  simp [List.length_flatMap, bitsOfWord_length, Nat.mul_comm]

theorem getLsbD_wordOfBits (bits : List Bool) {k : Nat} (hk : k < 32) :
    (wordOfBits bits).getLsbD k = bits.getD k false := by
  induction bits generalizing k with
  | nil => simp [wordOfBits]
  | cons b bits ih =>
    have hword : wordOfBits (b :: bits) = (wordOfBits bits <<< 1) ||| (if b then 1#32 else 0#32) := rfl
    rw [hword, BitVec.getLsbD_or, BitVec.getLsbD_shiftLeft]
    cases k with
    | zero => cases b <;> simp
    | succ k =>
      have hlow : (if b then 1#32 else 0#32).getLsbD (k + 1) = false := by
        cases b <;> simp [BitVec.getLsbD_one]
      rw [hlow, Bool.or_false]
      simp [ih (Nat.lt_of_succ_lt hk), hk]

theorem wordOfBits_bitsOfWord (w : Word) : wordOfBits (bitsOfWord w) = w :=
  BitVec.eq_of_getLsbD_eq fun _ hk => (getLsbD_wordOfBits _ hk).trans (bitsOfWord_getD w hk)

/-- The words of a frame come back out of its bits, whatever bits follow (R179). -/
theorem wordsOfBits_flatMap_append (ws : List Word) (n : Nat) (fill : List Bool) :
    wordsOfBits (ws.length + n) (ws.flatMap bitsOfWord ++ fill) = ws ++ wordsOfBits n fill := by
  induction ws with
  | nil => simp
  | cons w ws ih =>
    have htake := List.take_left' (l₂ := ws.flatMap bitsOfWord ++ fill) (bitsOfWord_length w)
    have hdrop := List.drop_left' (l₂ := ws.flatMap bitsOfWord ++ fill) (bitsOfWord_length w)
    rw [List.length_cons, Nat.add_right_comm, List.flatMap_cons, List.append_assoc, wordsOfBits, htake, hdrop, ih,
      wordOfBits_bitsOfWord, List.cons_append]

/-- Bit `k` of the bits of a run of words is a bit of word `k / 32` (R179). -/
theorem flatMap_bitsOfWord_getD (ws : List Word) (k : Nat) :
    (ws.flatMap bitsOfWord).getD k false =
      match ws[k / 32]? with | some w => w.getLsbD (k % 32) | none => false := by
  induction ws generalizing k with
  | nil => rfl
  | cons w ws ih =>
    rw [List.flatMap_cons]
    by_cases hk : k < 32
    · rw [List.getD_append _ _ _ _ (by rwa [bitsOfWord_length]), bitsOfWord_getD w hk, Nat.div_eq_of_lt hk,
        Nat.mod_eq_of_lt hk]
      rfl
    · obtain ⟨j, rfl⟩ := Nat.exists_eq_add_of_le (Nat.not_lt.mp hk)
      rw [List.getD_append_right _ _ _ _ (by rw [bitsOfWord_length]; omega), bitsOfWord_length,
        Nat.add_sub_cancel_left, ih, Nat.add_mod_left, Nat.add_comm 32, Nat.add_div_right j (by decide)]
      rfl

/-! ### The check byte -/

theorem frameSum_eq_sum (ws : List Word) : frameSum ws = (ws.map byteSum).sum := by
  rw [frameSum, List.sum_eq_foldl, List.foldl_map]

theorem frameSum_cons (w : Word) (ws : List Word) : frameSum (w :: ws) = byteSum w + frameSum ws := by
  simp [frameSum_eq_sum]

theorem validFrame_iff (ws : List Word) : validFrame ws = true ↔ frameSum ws = 0xA5#8 := decide_eq_true_iff

/-- The sum of a frame's bytes, word by word, is the sum over the list of its bytes (R182). -/
theorem frameSum_eq_foldr_bytes (ws : List Word) :
    frameSum ws =
      (ws.flatMap fun w => [w.extractLsb' 0 8, w.extractLsb' 8 8, w.extractLsb' 16 8, w.extractLsb' 24 8]).foldr
        (fun b a => b + a) 0 := by
  induction ws with
  | nil => rfl
  | cons w ws ih =>
    rw [frameSum_cons, ih]
    simp [byteSum, byteOf, add_assoc]

/-- Word 0 of a frame that the part builds (R181). -/
def frameHead (code sequence : Byte) (ws : List Word) : Word :=
  wordOfBytes code sequence (BitVec.ofNat 8 ws.length)
    (Config.frameSum - (code + sequence + BitVec.ofNat 8 ws.length + frameSum ws))

theorem buildFrame_eq (code sequence : Byte) (ws : List Word) :
    buildFrame code sequence ws = frameHead code sequence ws :: ws := rfl

theorem byteOf_frameHead (code sequence : Byte) (ws : List Word) :
    byteOf (frameHead code sequence ws) 0 = code ∧ byteOf (frameHead code sequence ws) 1 = sequence ∧
      byteOf (frameHead code sequence ws) 2 = BitVec.ofNat 8 ws.length ∧
      byteOf (frameHead code sequence ws) 3 =
        Config.frameSum - (code + sequence + BitVec.ofNat 8 ws.length + frameSum ws) :=
  byteOf_wordOfBytes ..

/-- The check byte makes a frame that the part builds sum to 0xA5 (R181, R182). -/
theorem validFrame_buildFrame (code sequence : Byte) (ws : List Word) :
    validFrame (buildFrame code sequence ws) = true := by
  obtain ⟨hcode, hsequence, hcount, hcheck⟩ := byteOf_frameHead code sequence ws
  rw [validFrame_iff, buildFrame_eq, frameSum_cons, byteSum, hcode, hsequence, hcount, hcheck, Config.frameSum]
  ring

/-- Settles O17: word 0 byte by byte, the sum over the words as a sum over the bytes, and the codes as tables. -/
theorem responseFramesHaveValidChecks : Obligations.ResponseFramesHaveValidChecks := by
  refine ⟨fun code sequence ws => ⟨validFrame_buildFrame code sequence ws, ?_⟩, fun ws => ?_,
    fun answer sequence ws s => ?_, fun reason => by cases reason <;> rfl⟩
  · obtain ⟨hcode, hsequence, hcount, -⟩ := byteOf_frameHead code sequence ws
    exact ⟨_, buildFrame_eq code sequence ws, hcode, hsequence, hcount⟩
  · rw [validFrame_iff, frameSum_eq_foldr_bytes]
  · cases answer <;> rfl

/-! ### The judgement of a transaction's bits -/

/-- The judgement by the whole words of the bits (R182). -/
theorem judgeFrame_of_words {bits : List Bool} {w : Word} {rest : List Word}
    (h : wordsOfBits (bits.length / 32) bits = w :: rest) :
    judgeFrame bits =
      if bits.length % 32 = 0 ∧ (byteOf w 2).toNat ≤ 6 ∧ (byteOf w 2).toNat ≤ rest.length ∧
          validFrame (w :: rest.take (byteOf w 2).toNat) = true then
        .ok { code := byteOf w 0, sequence := byteOf w 1, args := rest.take (byteOf w 2).toNat }
      else .error (byteOf w 1) := by
  rw [judgeFrame, h]

theorem judgeFrame_of_short {bits : List Bool} (h : bits.length < 32) : judgeFrame bits = .error 0 := by
  rw [judgeFrame, Nat.div_eq_of_lt h]
  rfl

/-- Bits whose length, count or check is not that of a frame are no request (R182). -/
theorem judgeFrame_of_no_frame {bits : List Bool} {w : Word} {rest : List Word}
    (hwords : wordsOfBits (bits.length / 32) bits = w :: rest)
    (h : bits.length % 32 ≠ 0 ∨ 6 < (byteOf w 2).toNat ∨ rest.length < (byteOf w 2).toNat ∨
      validFrame (w :: rest.take (byteOf w 2).toNat) = false) :
    judgeFrame bits = .error (byteOf w 1) := by
  rw [judgeFrame_of_words hwords]
  refine if_neg fun ⟨hwhole, hcount, hrest, hvalid⟩ => ?_
  rcases h with h | h | h | h
  · exact h hwhole
  · exact Nat.not_le.mpr h hcount
  · exact Nat.not_le.mpr h hrest
  · exact Bool.false_ne_true (h.symm.trans hvalid)

/-- Settles O16: the words of the frame come back out of its bits, and those after the arguments are fill. -/
theorem requestFramesReadBack : Obligations.RequestFramesReadBack := by
  intro code sequence args fill hargs hfill
  obtain ⟨m, hm⟩ := Nat.dvd_of_mod_eq_zero hfill
  have hlength : (requestBits code sequence args ++ fill).length = 32 * (args.length + 1 + m) := by
    rw [requestBits, buildFrame_eq, List.length_append, flatMap_bitsOfWord_length, hm, Nat.mul_add, List.length_cons]
  have hwords : wordsOfBits ((requestBits code sequence args ++ fill).length / 32)
      (requestBits code sequence args ++ fill) =
        frameHead code sequence args :: (args ++ wordsOfBits m fill) := by
    rw [hlength, Nat.mul_div_cancel_left _ (by decide), requestBits, buildFrame_eq]
    exact wordsOfBits_flatMap_append (frameHead code sequence args :: args) m fill
  obtain ⟨hcode, hsequence, hbyte, -⟩ := byteOf_frameHead code sequence args
  have hcount : (byteOf (frameHead code sequence args) 2).toNat = args.length := by
    rw [hbyte, BitVec.toNat_ofNat, Nat.mod_eq_of_lt (by omega)]
  rw [judgeFrame_of_words hwords, hcount, List.take_left, hcode, hsequence]
  refine if_pos ⟨?_, hargs, ?_, validFrame_buildFrame code sequence args⟩
  · rw [hlength, Nat.mul_mod_right]
  · rw [List.length_append]
    exact Nat.le_add_right _ _

end Sys2Proof.Machine
end

/-! PROOF. The requests of the M-link that the link itself carries out, and the link's own answers: NOP, READ_STATUS,
SET_PARAM and GET_PARAM, the judgement of frames, codes and counts, and the frame fixed at MCS# (R179 to R188). -/
section

namespace Sys2Proof.Machine

/-! ### Words and their bytes -/

/-- A word by the places of its bytes (R181). -/
theorem wordOfBytes_eq_or (b0 b1 b2 b3 : Byte) :
    wordOfBytes b0 b1 b2 b3 =
      b0.zeroExtend 32 ||| b1.zeroExtend 32 <<< 8 ||| b2.zeroExtend 32 <<< 16 ||| b3.zeroExtend 32 <<< 24 := by
  refine BitVec.eq_of_getLsbD_eq fun i hi => ?_
  simp only [getLsbD_wordOfBytes, BitVec.getLsbD_or, BitVec.getLsbD_shiftLeft, BitVec.truncate_eq_setWidth,
    BitVec.getLsbD_setWidth]
  grind

theorem wordOfBytes_toNat (b0 b1 b2 b3 : Byte) :
    (wordOfBytes b0 b1 b2 b3).toNat = b3.toNat * 2 ^ 24 + b2.toNat * 2 ^ 16 + b1.toNat * 2 ^ 8 + b0.toNat := by
  simp only [wordOfBytes, BitVec.toNat_append, ← Nat.shiftLeft_add_eq_or_of_lt b0.isLt,
    ← Nat.shiftLeft_add_eq_or_of_lt b1.isLt, ← Nat.shiftLeft_add_eq_or_of_lt b2.isLt]
  simp only [Nat.shiftLeft_eq]
  ring

/-- The word of two counts, each modulo 256 (R185). -/
theorem wordOfBytes_counts (m n : Nat) :
    wordOfBytes (BitVec.ofNat 8 m) (BitVec.ofNat 8 n) 0 0 = BitVec.ofNat 32 (m % 256 + 256 * (n % 256)) := by
  refine BitVec.eq_of_toNat_eq ?_
  rw [wordOfBytes_toNat]
  simp only [BitVec.toNat_ofNat, BitVec.ofNat_eq_ofNat]
  omega

/-! ### The words of READ_STATUS: the codes of its first word, and the ring counts -/

theorem Controller.code_zeroExtend (c : Controller) :
    c.code.zeroExtend 32 =
      match c with
      | .unmounted => 0 | .mounting => 1 | .idle => 2 | .active => 3 | .rollingBack => 4 | .faulted => 5 := by
  cases c <;> rfl

theorem stageCode_zeroExtend (c : Option ClosingRecord) :
    (stageCode c).zeroExtend 32 =
      match c with
      | none => 0
      | some c => match c.stage with | .capturing => 1 | .draining => 2 | .marking => 3 | .reclaiming => 4 := by
  cases c with
  | none => rfl
  | some c => cases h : c.stage <;> simp only [stageCode, h] <;> rfl

theorem HoldState.code_zeroExtend (h : HoldState) :
    h.code.zeroExtend 32 = match h with | .run => 0 | .holding => 1 | .safe => 2 := by
  cases h <;> rfl

theorem flagByte_isSome_zeroExtend (d : Option Byte) :
    (flagByte d.isSome 0).zeroExtend 32 <<< 24 = if d = none then 0 else 0x01000000#32 := by
  cases d with
  | none => rfl
  | some q => simp [flagByte]

theorem State.ringCount_of_unreported (s : State) (h : s.controller = .unmounted ∨ s.controller = .mounting)
    (f : Ring → Nat) : s.ringCount f = 0 := by
  rcases h with h | h <;> simp [State.ringCount, State.reportsRing, h]

theorem State.ringCount_of_reported (s : State) (h : ¬(s.controller = .unmounted ∨ s.controller = .mounting))
    (f : Ring → Nat) : s.ringCount f = BitVec.ofNat 32 ((s.ring.map f).getD 0) := by
  obtain ⟨hu, hm⟩ := not_or.mp h
  simp [State.ringCount, State.reportsRing, hu, hm, countWord]

/-- The eight words of READ_STATUS as R185 gives them. -/
theorem State.statusWords_eq (s : State) :
    s.statusWords =
      [ s.controller.code.zeroExtend 32 ||| (stageCode s.closing).zeroExtend 32 <<< 8 |||
          s.hold.code.zeroExtend 32 <<< 16 ||| (flagByte s.drain.isSome 0).zeroExtend 32 <<< 24,
        match s.active with | some a => a.number | none => 0,
        match s.closing with | some c => c.record.number | none => 0,
        s.ringCount s.freeOf, s.ringCount (·.occupancy), s.ringCount (·.owed), s.latched.zeroExtend 32,
        BitVec.ofNat 32 (s.incidents.length % 256 + 256 * (s.completions.length % 256)) ] := by
  rw [State.statusWords, wordOfBytes_counts, wordOfBytes_eq_or]
  cases s.active <;> cases s.closing <;> rfl

/-- The ring counts as READ_STATUS reports them: free, occupancy and owed (R2, R185). -/
def State.reportedCounts (s : State) : Word × Word × Word :=
  if s.controller = .unmounted ∨ s.controller = .mounting then (0, 0, 0)
  else
    match s.ring, s.geometry with
    | some g, some m =>
      (BitVec.ofNat 32 (m.slots - 2 - g.occupancy), BitVec.ofNat 32 g.occupancy, BitVec.ofNat 32 g.owed)
    | some g, none => (0, BitVec.ofNat 32 g.occupancy, BitVec.ofNat 32 g.owed)
    | none, _ => (0, 0, 0)

theorem State.ringCounts_eq (s : State) :
    s.ringCount s.freeOf = s.reportedCounts.1 ∧ s.ringCount (·.occupancy) = s.reportedCounts.2.1 ∧
      s.ringCount (·.owed) = s.reportedCounts.2.2 := by
  unfold State.reportedCounts
  split
  next h => exact ⟨s.ringCount_of_unreported h _, s.ringCount_of_unreported h _, s.ringCount_of_unreported h _⟩
  next h =>
    simp only [s.ringCount_of_reported h]
    cases hr : s.ring with
    | none => exact ⟨rfl, rfl, rfl⟩
    | some g => cases hg : s.geometry <;> simp [State.freeOf, State.capacity, ringCapacity, hg]

/-! ### The requests NOP and READ_STATUS -/

theorem counted_readStatus {r : LinkRequest} (h : r.args = []) (s : State) :
    counted .readStatus r s = doneReply s.statusWords s := by
  rw [counted, h]
  rfl

theorem counted_nop {r : LinkRequest} (h : r.args = []) (s : State) : counted .nop r s = doneReply [] s := by
  rw [counted, h]
  rfl

/-- Settles O19: each command takes no argument, and the words of READ_STATUS are brought to the table's form. -/
theorem nopAndReadStatusAnswer : Obligations.NopAndReadStatusAnswer := by
  intro r s hr
  refine ⟨fun h => ?_, fun h => ⟨linkStep_done hr (counted_nop h s), ?_⟩⟩
  · have hcount : (r.args.length == 0) = false := by simpa using h
    exact ⟨linkStep_refusal hr (counted_of_not_takes (l := .nop) hcount s),
      linkStep_refusal hr (counted_of_not_takes (l := .readStatus) hcount s)⟩
  · refine (linkStep_done hr (counted_readStatus h s)).trans ?_
    rw [State.statusWords_eq, Controller.code_zeroExtend, stageCode_zeroExtend, HoldState.code_zeroExtend,
      flagByte_isSome_zeroExtend]
    obtain ⟨hfree, hoccupancy, howed⟩ := s.ringCounts_eq
    rw [hfree, hoccupancy, howed]
    rfl

/-! ### SET_PARAM and GET_PARAM -/

/-- The values that are acceptable for a setting (R186). -/
def AcceptableValue (id n : Nat) : Prop :=
  match id with
  | 1 => n % 65536 = 0
  | 2 => n = 0 ∨ (1024 ≤ n ∧ n ≤ 262144 ∧ n % 256 = 0)
  | 3 => n ≤ 2
  | 4 => n ≤ 65535
  | 5 => n ≤ 65535
  | 6 => n ≤ 65535
  | 7 => n = 2 ∨ n = 4 ∨ n = 16 ∨ n = 64
  | 8 => n ≤ 1
  | 9 => 1 ≤ n ∧ n ≤ 4095
  | 10 => n ≤ 1
  | 11 => n ≤ 1
  | 12 => n < 64
  | _ => False

/-- The settings with a value stored (R187). -/
def Settings.stored (t : Settings) (id : Nat) (v : Word) : Settings :=
  match id with
  | 1 => { t with journalBase := v }
  | 2 => { t with journalSlots := v }
  | 3 => { t with noEpochWrite := if v.toNat = 0 then .pass else if v.toNat = 1 then .refuse else .autoOpen }
  | 4 => { t with fullWaitUs := v }
  | 5 => { t with lowSpaceSlots := v }
  | 6 => { t with autoCommitMs := v }
  | 7 => { t with retryLimit := v }
  | 8 => { t with exhaustAction := if v.toNat = 0 then .fail else .persist }
  | 9 => { t with dsTimeoutUs := v }
  | 10 => { t with holdMode := if v.toNat = 0 then .drain else .freeze }
  | 11 => { t with defaultClass := if v.toNat = 0 then .plain else .hole }
  | 12 => { t with alertMask := alertsOfWord v }
  | _ => t

/-- A word of value at most 1 is one of the two codes that a setting with two choices has (R186). -/
theorem eq_zero_or_one_of_toNat_le {v : Word} (h : v.toNat ≤ 1) : v = 0 ∨ v = 1 := by
  simp only [← BitVec.toNat_inj, BitVec.toNat_ofNat, BitVec.ofNat_eq_ofNat]
  omega

theorem eq_zero_or_one_or_two_of_toNat_le {v : Word} (h : v.toNat ≤ 2) : v = 0 ∨ v = 1 ∨ v = 2 := by
  simp only [← BitVec.toNat_inj, BitVec.toNat_ofNat, BitVec.ofNat_eq_ofNat]
  omega

/-- The alert set that a word names, read back as a word (R163). -/
theorem alertWord_alertsOfWord {v : Word} (h : v.toNat < 64) : alertWord (alertsOfWord v) = v := by
  refine BitVec.eq_of_toNat_eq ?_
  simp only [alertWord, alertsOfWord, BitVec.truncate_eq_setWidth, BitVec.toNat_setWidth, BitVec.extractLsb'_toNat,
    Nat.shiftRight_zero]
  omega

section
variable {id : Nat} {v : Word} (t : Settings)

/-- The tests of value and identifier, and what a value that passes them leaves stored (R186, R187). -/
theorem Settings.put_eq_some_iff {u : Settings} :
    t.put id v = some u ↔ AcceptableValue id v.toNat ∧ t.stored id v = u := by
  unfold AcceptableValue Settings.put Settings.stored
  split
  case h_3 | h_8 | h_10 | h_11 => split <;> grind
  case h_13 => grind
  all_goals simp [← BitVec.toNat_inj, alertWordOk_iff]

theorem Settings.put_of_not_acceptable (h : ¬AcceptableValue id v.toNat) : t.put id v = none :=
  Option.eq_none_iff_forall_ne_some.mpr fun _ hu => h (t.put_eq_some_iff.mp hu).1

theorem Settings.get_stored_self (h : AcceptableValue id v.toNat) : (t.stored id v).get id = some v := by
  unfold AcceptableValue at h
  split at h
  case h_3 => rcases eq_zero_or_one_or_two_of_toNat_le h with rfl | rfl | rfl <;> rfl
  case h_8 | h_10 | h_11 => rcases eq_zero_or_one_of_toNat_le h with rfl | rfl <;> rfl
  case h_12 => exact congrArg some (alertWord_alertsOfWord h)
  case h_13 => exact h.elim
  all_goals rfl

/-- Storing a setting leaves every other one as it was (R187). -/
theorem Settings.get_stored_of_ne {k : Nat} (h : k ≠ id) : (t.stored id v).get k = t.get k := by
  unfold Settings.stored
  split
  all_goals
    unfold Settings.get
    split <;> grind

end

section
variable {id v : Word} {s : State}

theorem setParamReply_of_not_acceptable (h : ¬AcceptableValue id.toNat v.toNat) :
    setParamReply [id, v] s = badReply s := by
  have hput : s.settings.put ([id, v].getD 0 0).toNat ([id, v].getD 1 0) = none :=
    s.settings.put_of_not_acceptable h
  rw [setParamReply, hput]

theorem setParamReply_of_acceptable (h : AcceptableValue id.toNat v.toNat) :
    setParamReply [id, v] s =
      if (id.toNat = 1 ∨ id.toNat = 2) ∧ s.controller ≠ .unmounted then refusedReply .wrongState s
      else doneReply [v] { s with settings := s.settings.stored id.toNat v } := by
  have hput : s.settings.put ([id, v].getD 0 0).toNat ([id, v].getD 1 0) = some (s.settings.stored id.toNat v) :=
    s.settings.put_eq_some_iff.mpr ⟨h, rfl⟩
  have hget : ((s.settings.stored id.toNat v).get ([id, v].getD 0 0).toNat).getD 0 = v :=
    congrArg (·.getD 0) (s.settings.get_stored_self h)
  rw [setParamReply, hput]
  dsimp only
  rw [hget]
  rfl

theorem AcceptableValue.ne_zero {k n : Nat} (h : AcceptableValue k n) : k ≠ 0 := by
  rintro rfl
  exact h

theorem getParamReply_of_get {w : Word} (h : s.settings.get id.toNat = some w) :
    getParamReply [id] s = doneReply [w] s := by
  have hget : s.settings.get ([id].getD 0 0).toNat = some w := h
  rw [getParamReply, hget]

theorem getParamReply_of_none (h : s.settings.get id.toNat = none) : getParamReply [id] s = badReply s := by
  have hget : s.settings.get ([id].getD 0 0).toNat = none := h
  rw [getParamReply, hget]

end

/-- Settles O20: the value test, the state test, and the settings with the value stored. -/
theorem setParamStoresAcceptableValues : Obligations.SetParamStoresAcceptableValues := by
  intro q id v s hr n acceptable request
  have hlow (h : acceptable) : id.toNat ≤ 2 ↔ id.toNat = 1 ∨ id.toNat = 2 := by
    have hpos := AcceptableValue.ne_zero h
    omega
  refine ⟨fun hbad => linkStep_refusal hr (setParamReply_of_not_acceptable hbad), fun hok hid hstate => ?_,
    fun hok hstate => ⟨s.settings.stored id.toNat v, ?_, s.settings.get_stored_self hok,
      fun k hk => s.settings.get_stored_of_ne hk⟩⟩
  · exact linkStep_refusal hr ((setParamReply_of_acceptable hok).trans (if_pos ⟨(hlow hok).mp hid, hstate⟩))
  · refine linkStep_done hr ((setParamReply_of_acceptable hok).trans (if_neg ?_))
    exact fun ⟨hid, hmounted⟩ => hmounted (hstate ((hlow hok).mpr hid))

/-- Settles O21: the argument count, then the identifier by the table of the settings. -/
theorem getParamReturnsTheStoredValue : Obligations.GetParamReturnsTheStoredValue := by
  intro q id s hr t
  refine ⟨fun args h => linkStep_refusal hr (counted_of_not_takes (by simpa [LinkCommand.takes] using h) s), ?_⟩
  intro answer
  have found {w : Word} (h : s.settings.get id.toNat = some w) : answer w := linkStep_done hr (getParamReply_of_get h)
  split
  case h_13 =>
    refine linkStep_refusal hr (getParamReply_of_none ?_)
    grind [Settings.get]
  all_goals
    next hid =>
      refine found ?_
      rw [hid]
      rfl

/-! ### The link's judgement -/

theorem takeReply_refusal {s : State} {code : Response} {words : List Word} {reply : State → Reply}
    (hr : s.rstHeld = false) (q : Byte) (h : reply s = refusal code words s) :
    takeReply q reply s = s.answered code q words := by
  simp only [takeReply, hr, Bool.false_eq_true, if_false, h]
  rfl

theorem linkCommand_of_unlisted {code : Byte}
    (h : code.toNat ∉
      [0x01, 0x02, 0x10, 0x11, 0x12, 0x20, 0x21, 0x30, 0x31, 0x38, 0x39, 0x40, 0x41, 0x42, 0x43, 0x50]) :
    linkCommand code = none := by
  unfold linkCommand
  split
  case h_17 => rfl
  all_goals
    next hcode =>
      rw [hcode] at h
      exact absurd h (by decide)

theorem execFrameError_of_error {bits : List Bool} {echo : Byte} (h : judgeFrame bits = .error echo) (s : State) :
    execFrameError bits s = .next (takeReply echo (refusal .frameError []) s) := by
  rw [execFrameError, h]

/-- Bits that form a request frame are dispatched as that frame (R182, R184). -/
theorem execFrameError_of_ok {bits : List Bool} {f : RequestFrame} (h : judgeFrame bits = .ok f) (s : State) :
    execFrameError bits s = execUnknownCommand f.code { sequence := f.sequence, args := f.args } s := by
  rw [execFrameError, h]
  rfl

/-- A code of the table is dispatched to the command that it names (R181, R184). -/
theorem execUnknownCommand_of_listed {code : Byte} {c : LinkCommand} (h : linkCommand code = some c) (r : LinkRequest)
    (s : State) : execUnknownCommand code r s = linkStep c r s := by
  have hdispatch : dispatch code r = counted c r := by
    funext x
    rw [dispatch, h]
  rw [execUnknownCommand, hdispatch, linkStep]

theorem State.outgoing_eq (s : State) :
    s.outgoing = match s.response with | some f => f | none => [0xA5000000#32] := by
  cases h : s.response with
  | none => rw [State.outgoing, h]; decide
  | some f => rw [State.outgoing, h]; rfl

theorem execMcsAsserted_of_released {s : State} (hm : s.mcs = false) (hr : s.rstHeld = false) :
    execMcsAsserted s = .next { s with mcs := true, transaction := some (openTransaction s.outgoing) } :=
  congrArg Host.Outcome.next ((if_neg (Bool.eq_false_iff.mp hm)).trans (if_neg (Bool.eq_false_iff.mp hr)))

/-- An argument count that the table of R181 does not give (R184). -/
theorem linkStep_of_not_takes {s : State} {r : LinkRequest} (hr : s.rstHeld = false) (c : LinkCommand)
    (h : c.takes r.args.length = false) : linkStep c r s = .next (s.answered .badArgument r.sequence []) :=
  linkStep_refusal hr (counted_of_not_takes h s)

/-- Settles O33: the judgement of the bits, the code and the count in their order, then the frame fixed at MCS#. -/
theorem linkJudgesFramesAndFixesItsOwn : Obligations.LinkJudgesFramesAndFixesItsOwn := by
  refine ⟨fun s hr => ⟨fun bits echo h => ?_, fun bits => judgeFrame_of_short,
      fun bits w rest => judgeFrame_of_no_frame, fun code r h => ?_,
      fun r => ⟨fun hn => ?_, fun hn => ?_, fun hn => ?_, fun h1 h6 => ?_⟩,
      fun bits f h => execFrameError_of_ok h s, fun r => ?_⟩,
    fun s => ⟨fun hm hr => ?_, fun hm hr => ?_, fun hm => ?_⟩,
    fun t k => flatMap_bitsOfWord_getD t.frame k⟩
  · refine (execFrameError_of_error h s).trans (congrArg Host.Outcome.next ?_)
    exact takeReply_refusal hr echo rfl
  · refine congrArg Host.Outcome.next (takeReply_refusal hr r.sequence ?_)
    rw [dispatch, linkCommand_of_unlisted h]
  · have hcount : (r.args.length == 0) = false := by simpa using hn
    have bad (c : LinkCommand) (h : c.takes r.args.length = (r.args.length == 0)) :=
      linkStep_of_not_takes hr c (h.trans hcount)
    exact ⟨bad .nop rfl, bad .readStatus rfl, bad .beginEpoch rfl, bad .commitEpoch rfl, bad .abortEpoch rfl,
      bad .recoverJournal rfl, bad .readAlerts rfl, bad .popIncident rfl, bad .popCompletion rfl⟩
  · have hcount : (r.args.length == 1) = false := by simpa using hn
    have bad (c : LinkCommand) (h : c.takes r.args.length = (r.args.length == 1)) :=
      linkStep_of_not_takes hr c (h.trans hcount)
    exact ⟨bad .formatJournal rfl, bad .getParam rfl, bad .readRegion rfl, bad .clearAlerts rfl, bad .resetPart rfl,
      bad .resetPart rfl⟩
  · exact linkStep_of_not_takes hr .setParam (by simpa [LinkCommand.takes] using hn)
  · exact linkStep_of_not_takes hr .writeRegion (by simp [LinkCommand.takes, h1, h6])
  · have named {code : Byte} {c : LinkCommand} (h : linkCommand code = some c) := execUnknownCommand_of_listed h r s
    exact ⟨named rfl, named rfl, named rfl, named rfl, named rfl, named rfl, named rfl, named rfl, named rfl,
      named rfl, named rfl, named rfl, named rfl, named rfl, named rfl, named rfl, named rfl⟩
  · have h := execMcsAsserted_of_released hm hr
    rw [State.outgoing_eq] at h
    exact h
  · exact congrArg Host.Outcome.next ((if_neg (Bool.eq_false_iff.mp hm)).trans (if_pos hr))
  · exact congrArg Host.Outcome.next (if_pos hm)

end Sys2Proof.Machine
end

/-! PROOF. A step runs the front command; every command has a next state, and leaves the queue of
commands and the timebase as they are. -/
section

namespace Sys2Proof.Machine

/-- Settles O1: `step` matches on the queue. -/
theorem stepRunsFrontCommand : Obligations.StepRunsFrontCommand := fun _ _ _ => rfl

/-- The commands still to come and the microseconds that have passed. -/
structure Schedule where
  pending : List Instr
  timebase : Nat

def Backdrop.schedule (b : Backdrop) : Schedule := { pending := b.pending, timebase := b.timebase }

def State.schedule (s : State) : Schedule := { pending := s.pending, timebase := s.timebase }

theorem schedule_of_backdrop {s t : State} (h : t.backdrop = s.backdrop) : t.schedule = s.schedule :=
  congrArg Backdrop.schedule h

theorem settle_schedule (s : State) : (settle s).schedule = s.schedule := schedule_of_backdrop (settle_backdrop s)

/-! ### The requests of either port -/

section
variable (s : State)

theorem takeWrite_schedule (r : WriteRequest) : (takeWrite r s).1.schedule = s.schedule := by
  have accepted (x : State) (cls : EntryClass) (ack : AckMode) : (acceptWrite r cls ack x).schedule = x.schedule :=
    congrArg Backdrop.schedule (acceptWrite_backdrop x r cls ack)
  unfold takeWrite
  split
  exacts [rfl, rfl, schedule_of_backdrop (addIncident_backdrop _ _), accepted _ _ _,
    (accepted _ _ _).trans (schedule_of_backdrop (openEpoch_backdrop _ _)), rfl]

theorem takeRead_schedule (r : ReadRequest) : (takeRead r s).1.schedule = s.schedule := by
  unfold takeRead
  split
  exacts [rfl, rfl, schedule_of_backdrop (addIncident_backdrop _ _), rfl, rfl]

theorem arrival_schedule (p : State × Bool) : (arrival p).schedule = p.1.schedule := by
  unfold arrival
  split
  exacts [settle_schedule _, rfl]

/-- The owners of the M-link's requests neither queue commands nor count time. -/
theorem reply_schedule (l : LinkCommand) (q : Byte) (args : List Word) :
    (l.reply q args s).state.schedule = s.schedule := by
  cases l with
  | nop | readStatus | readAlerts => rfl
  | formatJournal | recoverJournal | setParam | getParam | writeRegion | readRegion | clearAlerts | popIncident
  | popCompletion =>
    dsimp only [LinkCommand.reply, mountReply, setParamReply, getParamReply, writeRegionReply, readRegionReply,
      clearAlertsReply, popIncidentReply, popCompletionReply]
    repeat' split
    all_goals rfl
  | beginEpoch =>
    dsimp only [LinkCommand.reply, beginReply]
    repeat' split
    exacts [rfl, rfl, rfl, rfl, rfl, rfl, schedule_of_backdrop (openEpoch_backdrop _ _)]
  | commitEpoch =>
    dsimp only [LinkCommand.reply, commitReply]
    repeat' split
    exacts [rfl, rfl, rfl, rfl, rfl, rfl, rfl, schedule_of_backdrop (acceptCommit_backdrop _ _)]
  | abortEpoch =>
    dsimp only [LinkCommand.reply, abortReply]
    repeat' split
    exacts [rfl, rfl, rfl, rfl, rfl, rfl, schedule_of_backdrop (acceptAbort_backdrop _)]
  | resetPart =>
    dsimp only [LinkCommand.reply, resetPartReply, softResetReply]
    repeat' split
    exacts [rfl, rfl, schedule_of_backdrop (resetPart_backdrop _ _), rfl]

theorem counted_schedule (l : LinkCommand) (r : LinkRequest) : (counted l r s).state.schedule = s.schedule := by
  unfold counted
  split
  exacts [reply_schedule _ _ _ _, rfl]

theorem dispatch_schedule (code : Byte) (r : LinkRequest) : (dispatch code r s).state.schedule = s.schedule := by
  unfold dispatch
  split
  exacts [rfl, counted_schedule _ _ _]

/-- The release of MCS# adds nothing to what the owner of the request makes of the schedule (R180). -/
theorem takeReply_schedule (q : Byte) {reply : State → Reply} (h : (reply s).state.schedule = s.schedule) :
    (takeReply q reply s).schedule = s.schedule := by
  unfold takeReply
  dsimp only
  repeat' split
  exacts [rfl, (settle_schedule _).trans h, h]

/-! ### Resets and pins -/

theorem pfwAsserted_schedule : (pfwAsserted s).schedule = s.schedule := by
  unfold pfwAsserted
  dsimp only
  split <;> rfl

theorem rstReleased_schedule (st : Straps) : (rstReleased st s).schedule = s.schedule := by
  cases hr : s.rstHeld with
  | false => rw [rstReleased_of_not_held hr]
  | true =>
    rw [rstReleased_of_held hr]
    split <;> rfl

end

/-! ### Commands -/

/-- A command of `s` has a next state, with the schedule of `s`. -/
def Answers (s : State) (o : Host.Outcome State Fault Refusal) : Prop := ∃ t, o = .next t ∧ t.schedule = s.schedule

section
variable {s : State}

theorem Answers.next {t : State} (h : t.schedule = s.schedule) : Answers s (.next t) := ⟨t, rfl, h⟩

theorem eventOf_answers {e : Option State} (h : Kept s e) : Answers s (eventOf e s) := by
  refine .next ?_
  split
  exacts [(settle_schedule _).trans (schedule_of_backdrop (h _ rfl)), rfl]

theorem ownStep_answers {f : State → Option State} (h : Kept s (f s)) : Answers s (ownStep f s) := eventOf_answers h

theorem finalAnswer_answers (d : DownTag) (a : FinalAnswer) (data : List Beat) : Answers s (finalAnswer d a data s) :=
  eventOf_answers (answer_kept s _ _ _)

theorem linkStep_answers (l : LinkCommand) (r : LinkRequest) : Answers s (linkStep l r s) :=
  .next (takeReply_schedule s _ (counted_schedule s l r))

theorem execFrameError_answers (bits : List Bool) : Answers s (execFrameError bits s) := by
  unfold execFrameError
  split
  exacts [.next (takeReply_schedule s _ rfl), .next (takeReply_schedule s _ (dispatch_schedule s _ _))]

theorem execMcsAsserted_answers : Answers s (execMcsAsserted s) := by
  refine .next ?_
  repeat' split
  all_goals rfl

end

/-- Every command answers, whatever it finds (log entry 1). -/
theorem exec_answers (c : Instr) (s : State) : Answers s (exec c s) := by
  cases c with
  | writeRequest r =>
    refine .next ?_
    split
    exacts [rfl, (arrival_schedule _).trans (takeWrite_schedule s r)]
  | readRequest r =>
    refine .next ?_
    split
    exacts [rfl, (arrival_schedule _).trans (takeRead_schedule s r)]
  | nop | readStatus | beginEpoch | commitEpoch | abortEpoch | formatJournal | recoverJournal | setParam | getParam
  | writeRegion | readRegion | readAlerts | clearAlerts | popIncident | popCompletion | resetPartSoft
  | resetPartForce =>
    exact linkStep_answers _ _
  | frameError bits => exact execFrameError_answers bits
  | unknownCommand code r => exact .next (takeReply_schedule s _ (dispatch_schedule s code r))
  | mcsAsserted => exact execMcsAsserted_answers
  | pfwAssert => exact .next ((settle_schedule _).trans (pfwAsserted_schedule s))
  | pfwRelease => exact .next (settle_schedule _)
  | rstAssert => exact .next rfl
  | rstRelease st => exact .next ((settle_schedule _).trans (rstReleased_schedule s st))
  | spaceWaitExpiry => exact eventOf_answers (spaceWaitExpires_kept s)
  | autoCommitExpiry => exact eventOf_answers (autoCommitExpires_kept s)
  | dsTimeout tag => exact eventOf_answers (timeout_kept s tag)
  | busyAnswer | lateAnswer => exact eventOf_answers (answer_kept s _ _ _)
  | dataWriteAnswer | dataReadAnswer | undoReadAnswer | undoSlotWriteAnswer | openSlotWriteAnswer
  | closeSlotWriteAnswer | anchorWriteAnswer | rollbackSlotReadAnswer | rollbackRestoreAnswer | rollbackAbandonAnswer
  | anchorReadAnswer | formatAnchorWriteAnswer | scanSlotReadAnswer | mountReplayReadAnswer | mountRestoreAnswer
  | mountAbandonAnswer | orphanOperationAnswer =>
    exact finalAnswer_answers _ _ _
  | reissue tag => exact ownStep_answers (reissueAt_kept s tag)
  | tagGrant | softResetTakesPlace | enterSafe | spaceGranted | pendingAutoCommitTaken | dataWriteIssue | dataReadIssue
  | captureStart | closerCapturingDone | closeWriteIssue | anchorClaimIssue | rollbackSettled | rollbackRestoreIssue
  | mountRestoreIssue | mountFromFaulted =>
    exact ownStep_answers (internalSteps_kept _ (by simp [internalSteps]) s)

/-- Settles O3: each command's effect, and each own step that follows it, keeps the schedule. -/
theorem everyCommandAnswersNext : Obligations.EveryCommandAnswersNext := fun c s => by
  obtain ⟨t, hnext, hschedule⟩ := exec_answers c s
  exact ⟨t, hnext, congrArg Schedule.pending hschedule, congrArg Schedule.timebase hschedule⟩

end Sys2Proof.Machine
end

/-! PROOF. An event carried to its end: a run of the part's own steps, each the first that can be taken, up to the bound
(Machine/Settle.lean). -/
section

namespace Sys2Proof.Machine

/-! ### The first step of a list -/

theorem firstStep_eq_none {l : List (State → Option State)} {s : State} :
    firstStep l s = none ↔ ∀ f ∈ l, f s = none := by
  induction l with
  | nil => simp [firstStep]
  | cons f l ih =>
    rw [firstStep, List.forall_mem_cons, ← ih]
    cases f s <;> simp

/-- The first step of a list that can be taken stands behind steps that cannot. -/
theorem firstStep_eq_some {l : List (State → Option State)} {s t : State} (h : firstStep l s = some t) :
    ∃ (before after : List (State → Option State)) (f : State → Option State),
      l = before ++ f :: after ∧ (∀ g ∈ before, g s = none) ∧ f s = some t := by
  induction l with
  | nil => cases h
  | cons f l ih =>
    cases hf : f s with
    | some u =>
      rw [firstStep, hf] at h
      exact ⟨[], l, f, rfl, by simp, hf.trans h⟩
    | none =>
      rw [firstStep, hf] at h
      obtain ⟨before, after, g, rfl, hbefore, hg⟩ := ih h
      exact ⟨f :: before, after, g, rfl, List.forall_mem_cons.mpr ⟨hf, hbefore⟩, hg⟩

/-! ### Runs -/

theorem settleFor_of_none {s : State} (h : firstStep internalSteps s = none) (n : Nat) : settleFor n s = s := by
  cases n with
  | zero => rfl
  | succ n => rw [settleFor, h]

theorem settleFor_of_some {s t : State} (h : firstStep internalSteps s = some t) (n : Nat) :
    settleFor (n + 1) s = settleFor n t := by
  rw [settleFor, h]

/-- At most `n` own steps, each the first that can be taken; where they are fewer, none can be taken at the end. -/
theorem settleFor_run (n : Nat) (s : State) :
    ∃ run : List State, (s :: run).IsChain FirstOwnStep ∧ settleFor n s = run.getLastD s ∧ run.length ≤ n ∧
      (run.length < n → ∀ f ∈ internalSteps, f (settleFor n s) = none) := by
  induction n generalizing s with
  | zero => exact ⟨[], .singleton s, rfl, le_rfl, fun h => absurd h (lt_irrefl 0)⟩
  | succ n ih =>
    cases hs : firstStep internalSteps s with
    | none =>
      rw [settleFor_of_none hs]
      exact ⟨[], .singleton s, rfl, Nat.zero_le _, fun _ => firstStep_eq_none.mp hs⟩
    | some t =>
      obtain ⟨run, hchain, hlast, hlength, hend⟩ := ih t
      rw [settleFor_of_some hs]
      refine ⟨t :: run, .cons_cons (firstStep_eq_some hs) hchain, ?_, Nat.succ_le_succ hlength, fun h => ?_⟩
      · rw [hlast, List.getLastD_cons]
      · exact hend (Nat.lt_of_succ_lt_succ h)

theorem settle_of_settled {s : State} (h : ∀ f ∈ internalSteps, f s = none) : settle s = s :=
  settleFor_of_none (firstStep_eq_none.mpr h) _

/-! ### Rows of the table at the end of an event -/

theorem Op.isHeld_iff {o : Op} : o.isHeld = true ↔ ∃ t, o.phase = .held t := by
  unfold Op.isHeld
  cases o.phase <;> simp

/-- Where no record is reissued, the hold allows it to no requester of a HELD record (R152). -/
theorem not_mayIssue_of_reissue_none {s : State} {t : DownTag} {o : Op} (h : reissue? s = none) (ho : o ∈ s.ops)
    (hheld : o.phase = .held t) : ¬s.mayIssue o.requester = true := by
  intro hmay
  unfold reissue? at h
  split at h
  · rename_i hnone
    exact List.find?_eq_none.mp hnone o ho (Bool.and_eq_true_iff.mpr ⟨Op.isHeld_iff.mpr ⟨t, hheld⟩, hmay⟩)
  · rename_i x hfound
    have hx := List.find?_some hfound
    obtain ⟨u, hu⟩ := Op.isHeld_iff.mp (Bool.and_eq_true_iff.mp hx).1
    rw [hu] at h
    cases h

theorem reissueAt_of_reissue_none {s : State} (h : reissue? s = none) (t : DownTag) : reissueAt? t s = none := by
  cases hfind : s.ops.find? (fun o => o.phase == .held t) with
  | none => rw [reissueAt?, hfind]
  | some o =>
    have hheld : o.phase = .held t := by simpa using List.find?_some hfind
    exact reissueAt_of_not_may hfind (not_mayIssue_of_reissue_none h (List.mem_of_find?_eq_some hfind) hheld)

/-- The rows of the table that are steps of the part by itself, but for the reissue of a given tag. -/
def ownRows : List Instr :=
  [.tagGrant, .spaceGranted, .captureStart, .closerCapturingDone, .rollbackSettled, .pendingAutoCommitTaken,
    .mountFromFaulted, .closeWriteIssue, .anchorClaimIssue, .rollbackRestoreIssue, .mountRestoreIssue, .dataWriteIssue,
    .dataReadIssue, .softResetTakesPlace, .enterSafe]

/-- Where no own step can be taken, the rows for such steps change nothing (log entry 21). -/
theorem exec_ownRows_of_settled {s : State} (h : ∀ f ∈ internalSteps, f s = none) :
    ∀ c ∈ ownRows, exec c s = .next s := by
  simp only [internalSteps, List.forall_mem_cons] at h
  obtain ⟨tagGrant, -, spaceGranted, captureStart, capturingDone, rollbackSettled, autoCommit, fromFaulted, -, -,
    closeWrite, anchorClaim, -, rollbackRestore, -, mountRestore, dataWrite, dataRead, softReset, enterSafe, -⟩ := h
  simp only [ownRows, List.forall_mem_cons, List.not_mem_nil, false_imp_iff, implies_true, and_true]
  exact ⟨ownStep_none tagGrant, ownStep_none spaceGranted, ownStep_none captureStart, ownStep_none capturingDone,
    ownStep_none rollbackSettled, ownStep_none autoCommit, ownStep_none fromFaulted, ownStep_none closeWrite,
    ownStep_none anchorClaim, ownStep_none rollbackRestore, ownStep_none mountRestore, ownStep_none dataWrite,
    ownStep_none dataRead, ownStep_none softReset, ownStep_none enterSafe⟩

theorem exec_reissue_of_settled {s : State} (h : ∀ f ∈ internalSteps, f s = none) (t : DownTag) :
    exec (.reissue t) s = .next s :=
  ownStep_none (reissueAt_of_reissue_none (h reissue? (by simp [internalSteps])) t)

/-- Settles O6: the run by induction on the bound, the rows by the steps that they are, the rest by the backdrop. -/
theorem eventsEndByTheOwnSteps : Obligations.EventsEndByTheOwnSteps := fun s => by
  obtain ⟨run, hchain, hlast, hlength, hend⟩ := settleFor_run Config.settleFuel s
  have kept {α : Type} (field : Backdrop → α) : field (settle s).backdrop = field s.backdrop :=
    congrArg field (settle_backdrop s)
  refine ⟨⟨run, hchain, hlast, hlength, fun h => ?_⟩, settle_of_settled, kept (·.setup.settings),
    kept (·.setup.regions), kept (·.setup.pfw), kept (·.setup.rstHeld), kept (·.mcs), kept (·.transaction),
    kept (·.mdi), kept (·.timebase), kept (·.pending), kept (·.nextPlace)⟩
  exact ⟨hend h, exec_ownRows_of_settled (hend h), exec_reissue_of_settled (hend h)⟩

end Sys2Proof.Machine
end
